-- ==== Sys2Proof/Word.lean ====
section
/-! DEFINITION. The word types of CORE and the one widening it has (00_scope.md R7, R8, R10). -/

namespace Sys2Proof

/-- The width of a data register, of `DT`, of `ST` and of a RAM cell (R6 `REG_W`, R27). -/
abbrev Byte := BitVec 8

/-- The width of `I`, of `pc`, of a stack entry and of an opcode word (R6 `I_W`, `PC_W`). -/
abbrev Word := BitVec 16

/-- A 4-bit field of an opcode word: a register number `X` or `Y`, a row count `N`; also a key number
(R8, R92). -/
abbrev Nibble := BitVec 4

/-- The 12-bit field `NNN` (R92). -/
abbrev Addr12 := BitVec 12

/-- `zext_16(v)`: `v` widened to 16 bits with zero bits (R10). -/
abbrev zext16 {n : Nat} (v : BitVec n) : Word := v.setWidth 16

/-- `zext_8(v)` (R10). -/
abbrev zext8 {n : Nat} (v : BitVec n) : Byte := v.setWidth 8

end Sys2Proof
end

