-- ==== Sys2Proof/Syntax.lean ====
section
/-! DEFINITION. The instructions of CORE: one constructor per row of spec/opcode_table.json
(30_encoding.md R100), the fallback row UNKNOWN included (40_instruction_cycle.md R124). -/

namespace Sys2Proof

/-- An instruction, its fields as R92 extracts them: `x`, `y` are register numbers, `n` a row count, `nn` an
8-bit immediate, `nnn` a 12-bit address. -/
inductive Instr where
  /-- 00E0 CLS (R141) -/
  | cls
  /-- 00EE RET (R151) -/
  | ret
  /-- 1NNN JP NNN (R152) -/
  | jpNnn (nnn : Addr12)
  /-- 2NNN CALL NNN (R153) -/
  | callNnn (nnn : Addr12)
  /-- 3XNN SE VX,NN (R154) -/
  | seVxNn (x : Nibble) (nn : Byte)
  /-- 4XNN SNE VX,NN (R155) -/
  | sneVxNn (x : Nibble) (nn : Byte)
  /-- 5XY0 SE VX,VY (R156) -/
  | seVxVy (x y : Nibble)
  /-- 6XNN LD VX,NN (R173) -/
  | ldVxNn (x : Nibble) (nn : Byte)
  /-- 7XNN ADD VX,NN (R174) -/
  | addVxNn (x : Nibble) (nn : Byte)
  /-- 8XY0 LD VX,VY (R175) -/
  | ldVxVy (x y : Nibble)
  /-- 8XY1 OR VX,VY (R176) -/
  | orVxVy (x y : Nibble)
  /-- 8XY2 AND VX,VY (R177) -/
  | andVxVy (x y : Nibble)
  /-- 8XY3 XOR VX,VY (R178) -/
  | xorVxVy (x y : Nibble)
  /-- 8XY4 ADD VX,VY (R179) -/
  | addVxVy (x y : Nibble)
  /-- 8XY5 SUB VX,VY (R180) -/
  | subVxVy (x y : Nibble)
  /-- 8XY6 SHR VX,VY (R181) -/
  | shrVxVy (x y : Nibble)
  /-- 8XY7 SUBN VX,VY (R182) -/
  | subnVxVy (x y : Nibble)
  /-- 8XYE SHL VX,VY (R183) -/
  | shlVxVy (x y : Nibble)
  /-- 9XY0 SNE VX,VY (R157) -/
  | sneVxVy (x y : Nibble)
  /-- ANNN LD I,NNN (R201) -/
  | ldINnn (nnn : Addr12)
  /-- BNNN JP V0,NNN (R158) -/
  | jpV0Nnn (nnn : Addr12)
  /-- CXNN RND VX,NN (R184) -/
  | rndVxNn (x : Nibble) (nn : Byte)
  /-- DXYN DRW VX,VY,N (R142) -/
  | drwVxVyN (x y n : Nibble)
  /-- EX9E SKP VX (R220) -/
  | skpVx (x : Nibble)
  /-- EXA1 SKNP VX (R221) -/
  | sknpVx (x : Nibble)
  /-- FX07 LD VX,DT (R222) -/
  | ldVxDt (x : Nibble)
  /-- FX0A LD VX,K (R223) -/
  | ldVxK (x : Nibble)
  /-- FX15 LD DT,VX (R224) -/
  | ldDtVx (x : Nibble)
  /-- FX18 LD ST,VX (R225) -/
  | ldStVx (x : Nibble)
  /-- FX1E ADD I,VX (R202) -/
  | addIVx (x : Nibble)
  /-- FX29 LD F,VX (R203) -/
  | ldFVx (x : Nibble)
  /-- FX33 LD B,VX (R204) -/
  | ldBVx (x : Nibble)
  /-- FX55 LD [I],VX (R205) -/
  | ldIndVx (x : Nibble)
  /-- FX65 LD VX,[I] (R206) -/
  | ldVxInd (x : Nibble)
  /-- Any word that matches no other row (R101, R124). -/
  | unknown (op : Word)
  deriving DecidableEq, Repr

end Sys2Proof
end

