-- ==== Sys2Proof/WellFormed.lean ====
section
/-! DEFINITION. The opcode table as data (30_encoding.md R100) and well-formed instructions: the fields of
every constructor are as wide as the encoding, so the one check is that the word of an `unknown` matches no
row (R101). -/

namespace Sys2Proof

/-- A row of the table of R100: it is matched by the words `op` with `op & mask = value`. -/
structure OpcodeRow where
  value : Word
  mask : Word
  deriving DecidableEq, Repr

/-- `(op & mask) == match` (R94). -/
def OpcodeRow.matchesWord (r : OpcodeRow) (op : Word) : Bool := (op &&& r.mask) == r.value

/-- The 34 rows of R100, in the document's order. -/
def opcodeTable : List OpcodeRow :=
  [ ⟨0x00E0, 0xFFFF⟩   -- 00E0 CLS
  , ⟨0x00EE, 0xFFFF⟩   -- 00EE RET
  , ⟨0x1000, 0xF000⟩   -- 1NNN JP NNN
  , ⟨0x2000, 0xF000⟩   -- 2NNN CALL NNN
  , ⟨0x3000, 0xF000⟩   -- 3XNN SE VX,NN
  , ⟨0x4000, 0xF000⟩   -- 4XNN SNE VX,NN
  , ⟨0x5000, 0xF00F⟩   -- 5XY0 SE VX,VY
  , ⟨0x6000, 0xF000⟩   -- 6XNN LD VX,NN
  , ⟨0x7000, 0xF000⟩   -- 7XNN ADD VX,NN
  , ⟨0x8000, 0xF00F⟩   -- 8XY0 LD VX,VY
  , ⟨0x8001, 0xF00F⟩   -- 8XY1 OR VX,VY
  , ⟨0x8002, 0xF00F⟩   -- 8XY2 AND VX,VY
  , ⟨0x8003, 0xF00F⟩   -- 8XY3 XOR VX,VY
  , ⟨0x8004, 0xF00F⟩   -- 8XY4 ADD VX,VY
  , ⟨0x8005, 0xF00F⟩   -- 8XY5 SUB VX,VY
  , ⟨0x8006, 0xF00F⟩   -- 8XY6 SHR VX,VY
  , ⟨0x8007, 0xF00F⟩   -- 8XY7 SUBN VX,VY
  , ⟨0x800E, 0xF00F⟩   -- 8XYE SHL VX,VY
  , ⟨0x9000, 0xF00F⟩   -- 9XY0 SNE VX,VY
  , ⟨0xA000, 0xF000⟩   -- ANNN LD I,NNN
  , ⟨0xB000, 0xF000⟩   -- BNNN JP V0,NNN
  , ⟨0xC000, 0xF000⟩   -- CXNN RND VX,NN
  , ⟨0xD000, 0xF000⟩   -- DXYN DRW VX,VY,N
  , ⟨0xE09E, 0xF0FF⟩   -- EX9E SKP VX
  , ⟨0xE0A1, 0xF0FF⟩   -- EXA1 SKNP VX
  , ⟨0xF007, 0xF0FF⟩   -- FX07 LD VX,DT
  , ⟨0xF00A, 0xF0FF⟩   -- FX0A LD VX,K
  , ⟨0xF015, 0xF0FF⟩   -- FX15 LD DT,VX
  , ⟨0xF018, 0xF0FF⟩   -- FX18 LD ST,VX
  , ⟨0xF01E, 0xF0FF⟩   -- FX1E ADD I,VX
  , ⟨0xF029, 0xF0FF⟩   -- FX29 LD F,VX
  , ⟨0xF033, 0xF0FF⟩   -- FX33 LD B,VX
  , ⟨0xF055, 0xF0FF⟩   -- FX55 LD [I],VX
  , ⟨0xF065, 0xF0FF⟩   -- FX65 LD VX,[I]
  ]

/-- A word that matches no row of R100 (R101). -/
def isUnknownWord (op : Word) : Bool := opcodeTable.all fun r => !r.matchesWord op

/-- The row of R100 an instruction belongs to; UNKNOWN is the fallback and has none. -/
def Instr.row : Instr → Option OpcodeRow
  | .cls => some ⟨0x00E0, 0xFFFF⟩
  | .ret => some ⟨0x00EE, 0xFFFF⟩
  | .jpNnn _ => some ⟨0x1000, 0xF000⟩
  | .callNnn _ => some ⟨0x2000, 0xF000⟩
  | .seVxNn _ _ => some ⟨0x3000, 0xF000⟩
  | .sneVxNn _ _ => some ⟨0x4000, 0xF000⟩
  | .seVxVy _ _ => some ⟨0x5000, 0xF00F⟩
  | .ldVxNn _ _ => some ⟨0x6000, 0xF000⟩
  | .addVxNn _ _ => some ⟨0x7000, 0xF000⟩
  | .ldVxVy _ _ => some ⟨0x8000, 0xF00F⟩
  | .orVxVy _ _ => some ⟨0x8001, 0xF00F⟩
  | .andVxVy _ _ => some ⟨0x8002, 0xF00F⟩
  | .xorVxVy _ _ => some ⟨0x8003, 0xF00F⟩
  | .addVxVy _ _ => some ⟨0x8004, 0xF00F⟩
  | .subVxVy _ _ => some ⟨0x8005, 0xF00F⟩
  | .shrVxVy _ _ => some ⟨0x8006, 0xF00F⟩
  | .subnVxVy _ _ => some ⟨0x8007, 0xF00F⟩
  | .shlVxVy _ _ => some ⟨0x800E, 0xF00F⟩
  | .sneVxVy _ _ => some ⟨0x9000, 0xF00F⟩
  | .ldINnn _ => some ⟨0xA000, 0xF000⟩
  | .jpV0Nnn _ => some ⟨0xB000, 0xF000⟩
  | .rndVxNn _ _ => some ⟨0xC000, 0xF000⟩
  | .drwVxVyN _ _ _ => some ⟨0xD000, 0xF000⟩
  | .skpVx _ => some ⟨0xE09E, 0xF0FF⟩
  | .sknpVx _ => some ⟨0xE0A1, 0xF0FF⟩
  | .ldVxDt _ => some ⟨0xF007, 0xF0FF⟩
  | .ldVxK _ => some ⟨0xF00A, 0xF0FF⟩
  | .ldDtVx _ => some ⟨0xF015, 0xF0FF⟩
  | .ldStVx _ => some ⟨0xF018, 0xF0FF⟩
  | .addIVx _ => some ⟨0xF01E, 0xF0FF⟩
  | .ldFVx _ => some ⟨0xF029, 0xF0FF⟩
  | .ldBVx _ => some ⟨0xF033, 0xF0FF⟩
  | .ldIndVx _ => some ⟨0xF055, 0xF0FF⟩
  | .ldVxInd _ => some ⟨0xF065, 0xF0FF⟩
  | .unknown _ => none

/-- An `unknown` carries an unknown word; every other instruction is well-formed by its field widths. -/
def Instr.wellFormed : Instr → Bool
  | .unknown op => isUnknownWord op
  | .cls | .ret | .jpNnn _ | .callNnn _ | .seVxNn _ _ | .sneVxNn _ _ | .seVxVy _ _ | .ldVxNn _ _
  | .addVxNn _ _ | .ldVxVy _ _ | .orVxVy _ _ | .andVxVy _ _ | .xorVxVy _ _ | .addVxVy _ _ | .subVxVy _ _
  | .shrVxVy _ _ | .subnVxVy _ _ | .shlVxVy _ _ | .sneVxVy _ _ | .ldINnn _ | .jpV0Nnn _ | .rndVxNn _ _
  | .drwVxVyN _ _ _ | .skpVx _ | .sknpVx _ | .ldVxDt _ | .ldVxK _ | .ldDtVx _ | .ldStVx _ | .addIVx _
  | .ldFVx _ | .ldBVx _ | .ldIndVx _ | .ldVxInd _ => true

end Sys2Proof
end

