-- ==== Sys2Proof/Decode.lean ====
section
/-! DEFINITION. The decoder (30_encoding.md R92, R94), total on any bytes, and after it the encoder, written
from the format figures of R91 and the encodings of R100. -/

namespace Sys2Proof

/-! ## Field extraction (R92) -/

/-- The major opcode `op[15:12]` (R91). -/
def fieldMajor (op : Word) : Nibble := op.extractLsb' 12 4
/-- `NNN = op[11:0]` (R92). -/
def fieldNnn (op : Word) : Addr12 := op.extractLsb' 0 12
/-- `NN = op[7:0]` (R92). -/
def fieldNn (op : Word) : Byte := op.extractLsb' 0 8
/-- `N = op[3:0]` (R92). -/
def fieldN (op : Word) : Nibble := op.extractLsb' 0 4
/-- `X = op[11:8]` (R92). -/
def fieldX (op : Word) : Nibble := op.extractLsb' 8 4
/-- `Y = op[7:4]` (R92). -/
def fieldY (op : Word) : Nibble := op.extractLsb' 4 4

/-! ## Decoding a word: the tree of R94 -/

/-- The `0x0` family: the test is on all of `op[11:0]` (R94). -/
def decode0 (op : Word) : Instr :=
  if fieldNnn op = 0x0E0 then .cls
  else if fieldNnn op = 0x0EE then .ret
  else .unknown op

/-- The `0x8` family, by `N` (R94). -/
def decode8 (op : Word) : Instr :=
  let x := fieldX op
  let y := fieldY op
  match (fieldN op).toNat with
  | 0x0 => .ldVxVy x y
  | 0x1 => .orVxVy x y
  | 0x2 => .andVxVy x y
  | 0x3 => .xorVxVy x y
  | 0x4 => .addVxVy x y
  | 0x5 => .subVxVy x y
  | 0x6 => .shrVxVy x y
  | 0x7 => .subnVxVy x y
  | 0xE => .shlVxVy x y
  | _ => .unknown op

/-- The `0xE` family, by `NN` (R94). -/
def decodeE (op : Word) : Instr :=
  match (fieldNn op).toNat with
  | 0x9E => .skpVx (fieldX op)
  | 0xA1 => .sknpVx (fieldX op)
  | _ => .unknown op

/-- The `0xF` family, by `NN` (R94). -/
def decodeF (op : Word) : Instr :=
  let x := fieldX op
  match (fieldNn op).toNat with
  | 0x07 => .ldVxDt x
  | 0x0A => .ldVxK x
  | 0x15 => .ldDtVx x
  | 0x18 => .ldStVx x
  | 0x1E => .addIVx x
  | 0x29 => .ldFVx x
  | 0x33 => .ldBVx x
  | 0x55 => .ldIndVx x
  | 0x65 => .ldVxInd x
  | _ => .unknown op

/-- The instruction of a word (R94). Decoding cannot fail: a word of no row is `unknown`, an outcome of decoding and not
an error of it (40_instruction_cycle.md R122). -/
def decodeWord (op : Word) : Instr :=
  match (fieldMajor op).toNat with
  | 0x0 => decode0 op
  | 0x1 => .jpNnn (fieldNnn op)
  | 0x2 => .callNnn (fieldNnn op)
  | 0x3 => .seVxNn (fieldX op) (fieldNn op)
  | 0x4 => .sneVxNn (fieldX op) (fieldNn op)
  | 0x5 => if fieldN op = 0 then .seVxVy (fieldX op) (fieldY op) else .unknown op
  | 0x6 => .ldVxNn (fieldX op) (fieldNn op)
  | 0x7 => .addVxNn (fieldX op) (fieldNn op)
  | 0x8 => decode8 op
  | 0x9 => if fieldN op = 0 then .sneVxVy (fieldX op) (fieldY op) else .unknown op
  | 0xA => .ldINnn (fieldNnn op)
  | 0xB => .jpV0Nnn (fieldNnn op)
  | 0xC => .rndVxNn (fieldX op) (fieldNn op)
  | 0xD => .drwVxVyN (fieldX op) (fieldY op) (fieldN op)
  | 0xE => decodeE op
  | _ => decodeF op

/-- Two bytes as a word, the first the most significant: `(hi << 8) | lo` (20_memory.md R63). -/
def wordOfBytes (hi lo : Byte) : Word := hi ++ lo

/-- The most significant byte of a word: the byte at the lower address (R63). -/
def hiByte (op : Word) : Byte := op.extractLsb' 8 8

/-- The least significant byte of a word: the byte at the higher address (R63). -/
def loByte (op : Word) : Byte := op.extractLsb' 0 8

/-- Why bytes are not decoded. -/
inductive DecodeError where
  /-- Fewer than the two bytes every instruction has (R90). Never met by the machine: its fetch reads two bytes. Safe. -/
  | truncated
  deriving DecidableEq, Repr

/-- The instruction the first two bytes hold, with the bytes after them (R90, R63). -/
def decode : List Byte → Except DecodeError (Instr × List Byte)
  | hi :: lo :: rest => .ok (decodeWord (wordOfBytes hi lo), rest)
  | [_] => .error .truncated
  | [] => .error .truncated

/-! ## The encoder -/

/-- Format `NNN` of R91. -/
def formatNnn (major : Nibble) (nnn : Addr12) : Word := major ++ nnn
/-- Formats `XNN` and `XFF` of R91: in `XFF` the low byte is the function byte. -/
def formatXnn (major x : Nibble) (nn : Byte) : Word := major ++ x ++ nn
/-- Formats `XYF` and `XYN` of R91: in `XYF` the low nibble is the function nibble. -/
def formatXyn (major x y n : Nibble) : Word := major ++ x ++ y ++ n

/-- The word of an instruction: the column "encoding" of R100. -/
def encodeWord : Instr → Word
  | .cls => 0x00E0
  | .ret => 0x00EE
  | .jpNnn nnn => formatNnn 0x1 nnn
  | .callNnn nnn => formatNnn 0x2 nnn
  | .seVxNn x nn => formatXnn 0x3 x nn
  | .sneVxNn x nn => formatXnn 0x4 x nn
  | .seVxVy x y => formatXyn 0x5 x y 0x0
  | .ldVxNn x nn => formatXnn 0x6 x nn
  | .addVxNn x nn => formatXnn 0x7 x nn
  | .ldVxVy x y => formatXyn 0x8 x y 0x0
  | .orVxVy x y => formatXyn 0x8 x y 0x1
  | .andVxVy x y => formatXyn 0x8 x y 0x2
  | .xorVxVy x y => formatXyn 0x8 x y 0x3
  | .addVxVy x y => formatXyn 0x8 x y 0x4
  | .subVxVy x y => formatXyn 0x8 x y 0x5
  | .shrVxVy x y => formatXyn 0x8 x y 0x6
  | .subnVxVy x y => formatXyn 0x8 x y 0x7
  | .shlVxVy x y => formatXyn 0x8 x y 0xE
  | .sneVxVy x y => formatXyn 0x9 x y 0x0
  | .ldINnn nnn => formatNnn 0xA nnn
  | .jpV0Nnn nnn => formatNnn 0xB nnn
  | .rndVxNn x nn => formatXnn 0xC x nn
  | .drwVxVyN x y n => formatXyn 0xD x y n
  | .skpVx x => formatXnn 0xE x 0x9E
  | .sknpVx x => formatXnn 0xE x 0xA1
  | .ldVxDt x => formatXnn 0xF x 0x07
  | .ldVxK x => formatXnn 0xF x 0x0A
  | .ldDtVx x => formatXnn 0xF x 0x15
  | .ldStVx x => formatXnn 0xF x 0x18
  | .addIVx x => formatXnn 0xF x 0x1E
  | .ldFVx x => formatXnn 0xF x 0x29
  | .ldBVx x => formatXnn 0xF x 0x33
  | .ldIndVx x => formatXnn 0xF x 0x55
  | .ldVxInd x => formatXnn 0xF x 0x65
  | .unknown op => op

/-- The two bytes of an instruction, the most significant first (R63, R90). -/
def encode (i : Instr) : List Byte := [hiByte (encodeWord i), loByte (encodeWord i)]

/-- The instruction the decoder reads from a row of spec/opcode_table.json whose bits are `w`: the one 16-bit word
laid out high byte first (R63) and given to `decode`. -/
def decodeTableWord (nbits w : Nat) : Option Instr :=
  if nbits ≤ 16 ∧ w < 65536 then
    match decode [hiByte (BitVec.ofNat 16 w), loByte (BitVec.ofNat 16 w)] with
    | .ok (i, _) => some i
    | .error _ => none
  else none

end Sys2Proof
end

