-- ==== Sys2Proof/Config.lean ====
section
/-! DEFINITION. What an instance of CORE fixes, and the free values: what the environment supplies and
the open parameters (00_scope.md R6, 10_state.md R40). A free value is an opaque constant: nothing can
be proved about it. -/

namespace Sys2Proof

/-- An element of `pend` (10_state.md R37): a key event or one of the three control events. -/
inductive Event where
  | keyDown (k : Nibble)
  | keyUp (k : Nibble)
  | quit
  | pauseToggle
  | restartReq
  deriving DecidableEq, Repr

namespace Config

/-- `MEM_SIZE`, fixed (R6). -/
@[simp] abbrev memSize : Nat := 4096

/-- The size of the font range 0x000 to 0x04F (R61, R294). -/
@[simp] abbrev fontSize : Nat := 80

/-- `ENTRY`, fixed: the reset value of `pc` and the load address of the ROM image (R6). -/
@[simp] abbrev entry : Nat := 0x200

/-- `ROM_MAX`, fixed: the longest ROM image accepted (R6, R293). -/
@[simp] abbrev romMax : Nat := 3584

/-- FREE VALUE. The `k`-th byte of the stream that drives the input `rand8` (R40, R184).
DESIGN CHOICE, safe: log 4. -/
opaque rand8 : Nat → Byte

/-- FREE VALUE. The events that arrive between the `f`-th drain and the next (R37, R40, R261).
DESIGN CHOICE: log 1. -/
opaque arrivals : Nat → List Event

/-- FREE VALUE. How many steps after the `f`-th frame tick the input `reset` is asserted, if it is before the next tick (R40, R290).
DESIGN CHOICE, safe: log 2. -/
opaque resetAt : Nat → Option Nat

/-- FREE VALUE. The open parameter `instPerSec` (R6): the source gives no value and no default.
DESIGN CHOICE, safe: log 7. -/
opaque instPerSec : Nat

/-- FREE VALUE. The open parameter `DEBUG_EN` (R6). DESIGN CHOICE, safe: log 8. -/
opaque debugEn : Bool

end Config

end Sys2Proof
end

