-- ==== Sys2Proof/Machine/State.lean ====
section
/-! DEFINITION. The state of CORE (10_state.md R20), its inputs, outputs and open parameters (R40, R41,
00_scope.md R6), and its value after reset (R42). Plain data: states can be compared and written out. -/

namespace Sys2Proof.Machine

/-- RAM as the cells that differ from what reset puts there, addresses strictly rising (`Memory.wf`); see
`Memory.unlisted` for every other address (R27, R61; log 16). -/
abbrev Memory := List Host.Cell

/-- The display: `disp[y][x]`, 32 rows of 64 pixels (R28, R140). -/
abbrev Grid := Vector (Vector Bool 64) 32

/-- `run` (R31). -/
inductive RunState where
  | running
  | paused
  | quit
  | restart
  deriving DecidableEq, Repr

/-- `fault` (R35). -/
inductive FaultLatch where
  | noFault
  | stackOverflow
  | stackUnderflow
  deriving DecidableEq, Repr

/-- `wk`, the key-wait state (R33). -/
inductive KeyWait where
  | none
  | seen (k : Nibble)
  deriving DecidableEq, Repr

/-- `inst`, the decoded-instruction latch: the opcode word and its five fields (R32). -/
structure InstLatch where
  opcode : Word
  nnn : Addr12
  nn : Byte
  n : Nibble
  x : Nibble
  y : Nibble
  deriving DecidableEq, Repr

/-- A record on `debug_out` (60_exceptions.md R263): `a` is the address the word was fetched from, `op` the word. -/
inductive DebugRecord where
  /-- R126: with the values before execution of `V[0..=15]`, `I`, `sp`, `DT`, `ST`. -/
  | trace (a op : Word) (v : Vector Byte 16) (i : Word) (sp : Fin 13) (dt st : Byte)
  /-- R124 -/
  | unknownOpcode (a op : Word)
  /-- R243 -/
  | stackOverflow (a op : Word)
  /-- R243 -/
  | stackUnderflow (a op : Word)
  deriving DecidableEq, Repr

/-- The open parameters of CORE (R6): arguments of every claim, constant in a run. -/
structure Params where
  /-- `ROM`: the program image, copied to 0x200 at reset and restart (R293). -/
  rom : List Byte
  /-- `FONT`: the bytes installed at 0x000 to 0x04F (R294). -/
  font : List Byte
  /-- `instPerSec` -/
  instPerSec : Nat
  /-- `DEBUG_EN` -/
  debugEn : Bool
  deriving DecidableEq, Repr

/-- Which step of the frame of 60_exceptions.md R250 comes next. The MODEL's own field. DESIGN CHOICE: log 11. -/
inductive Phase where
  /-- Step 5: wait for the next `frame_tick`. -/
  | pad
  /-- Step 1: drain `pend`. -/
  | input
  /-- The head of step 2: examine `run` and `fault`. -/
  | execute
  /-- The loop of step 2: one instruction cycle while `batch_left > 0`. -/
  | batch
  /-- Step 3: `TimerTick`. -/
  | tick
  /-- Step 4: present the display. -/
  | present
  /-- After `Stop()` (R252): no frame, no instruction, no change of state. -/
  | stopped
  deriving DecidableEq, Repr

/-- The state of CORE. The first seventeen fields are the elements of R20, in its order. -/
structure State where
  /-- `memory` (R27) -/
  mem : Memory
  /-- `V[0]` to `V[15]`; `VF` is `V[15]` (R21, R22) -/
  v : Vector Byte 16
  /-- `I` (R23) -/
  i : Word
  /-- `pc` (R24) -/
  pc : Word
  /-- `stack[0]` to `stack[11]` (R25) -/
  stack : Vector Word 12
  /-- `sp`: the values 0..=12 of the 8-bit register (R26; log 13) -/
  sp : Fin 13
  /-- `disp` (R28) -/
  disp : Grid
  /-- `keys[0]` to `keys[15]`, true means held (R29) -/
  keys : Vector Bool 16
  /-- `DT` (R30) -/
  dt : Byte
  /-- `ST` (R30) -/
  st : Byte
  /-- `run` (R31) -/
  run : RunState
  /-- `inst` (R32) -/
  inst : InstLatch
  /-- `wk` (R33) -/
  wk : KeyWait
  /-- `tone` (R34) -/
  tone : Bool
  /-- `fault` (R35) -/
  fault : FaultLatch
  /-- `batch_left` (R36) -/
  batchLeft : Nat
  /-- `pend`, oldest first (R37) -/
  pend : List Event
  /-- Input `reset`: `some 0` while it is asserted, `some n` when the environment asserts it `n` steps from now, else `none`
  (R40; log 2) -/
  resetIn : Option Nat
  /-- Input `rand8`: the byte the next CXNN takes (R40, R184; log 4) -/
  rand8 : Byte
  /-- Output `display_out`: the grid presented last (R41, R258; log 10) -/
  displayOut : Grid
  /-- Output `debug_out`: the records the last step emitted, in order (R41, R263; log 9) -/
  debugOut : List DebugRecord
  /-- The open parameters (R6) -/
  params : Params
  /-- MODEL's own: where in the frame CORE stands (R250; log 11) -/
  phase : Phase
  /-- MODEL's own: how many frame ticks have come (log 1) -/
  frames : Nat
  /-- MODEL's own: how many bytes were taken from `rand8` (log 4) -/
  randTaken : Nat
  deriving DecidableEq, Repr

/-- Why a step ends in a fault: never. CORE has no condition that leaves it without a next state (60_exceptions.md R240,
R241): a stack fault latches its code in the field `fault` and the frames go on (R243, R244; log 14). -/
inductive Fault where
  deriving DecidableEq, Repr

/-- Why a step is refused. -/
inductive Refusal where
  /-- Raised by an arm of `exec` whose instruction has no meaning yet; no arm raises it. Safe. -/
  | notModelled (mnemonic : String)
  /-- Raised by the boot sequence when `len(ROM) > 3584`: "the model refuses such a launch" (R293; log 15). It
  records the length of the image, as R241 says of code 16. Safe. -/
  | romTooLarge (length : Nat)
  deriving DecidableEq, Repr

/-- All 2048 pixels off. -/
def blankGrid : Grid := Vector.replicate 32 (Vector.replicate 64 false)

/-- `inst` with all six fields 0 (R42). -/
def InstLatch.zero : InstLatch := ⟨0, 0, 0, 0, 0, 0⟩

/-- The state after power-on reset (R42), with an empty ROM (log 5), the default FONT (log 6), the parameters
`instPerSec` and `DEBUG_EN` free (logs 7, 8), the input `reset` not asserted (log 2), the first byte of the free
stream on `rand8` (log 4), nothing presented yet (log 10) and CORE waiting for its first frame tick (log 11). -/
def State.reset : State where
  mem := []
  v := Vector.replicate 16 0
  i := 0
  pc := 0x0200
  stack := Vector.replicate 12 0
  sp := 0
  disp := blankGrid
  keys := Vector.replicate 16 false
  dt := 0
  st := 0
  run := .running
  inst := InstLatch.zero
  wk := .none
  tone := false
  fault := .noFault
  batchLeft := 0
  pend := []
  resetIn := none
  rand8 := Config.rand8 0
  displayOut := blankGrid
  debugOut := []
  params := { rom := [], font := defaultFont, instPerSec := Config.instPerSec, debugEn := Config.debugEn }
  phase := .pad
  frames := 0
  randTaken := 0

end Sys2Proof.Machine
end

