-- ==== Sys2Proof/Machine/Ops.lean ====
section
/-! DEFINITION. The named operations over memory, registers, stack, display, keys and debug port, the raise of
a stack fault and the boot sequence. Every read and write of an element goes through these. -/

namespace Sys2Proof.Machine

/-! ## RAM as data -/

/-- What an address that is not listed reads as: what reset puts there before the ROM image is copied, the font
at 0x000 to 0x04F and 0 elsewhere (10_state.md R42, 70_reset_and_hazards.md R291 steps 1 and 2; log 16). -/
def Memory.unlisted (font : List Byte) (a : Nat) : Byte := if a < Config.fontSize then font.getD a 0 else 0

/-- The byte at `a`. -/
def Memory.read (font : List Byte) : Memory → Nat → Byte
  | [], a => Memory.unlisted font a
  | (k, b) :: rest, a => if k = a then b else Memory.read font rest a

/-- `cell` in front of `rest`, unless it says what an unlisted address reads as. -/
def Memory.consUnless (font : List Byte) (a : Nat) (b : Byte) (rest : Memory) : Memory :=
  if b = Memory.unlisted font a then rest else (a, b) :: rest

/-- The byte at `a` set to `b`, in canonical form. -/
def Memory.write (font : List Byte) : Memory → Nat → Byte → Memory
  | [], a, b => Memory.consUnless font a b []
  | (k, c) :: rest, a, b =>
    if a < k then Memory.consUnless font a b ((k, c) :: rest)
    else if a = k then Memory.consUnless font a b rest
    else (k, c) :: Memory.write font rest a b

/-- The cells are at rising addresses from `lo` up, below 4096, and none says what an unlisted address reads as. -/
def Memory.wfFrom (font : List Byte) : Nat → Memory → Bool
  | _, [] => true
  | lo, (k, b) :: rest =>
    decide (lo ≤ k) && decide (k < Config.memSize) && decide (b ≠ Memory.unlisted font k) && Memory.wfFrom font (k + 1) rest

/-- The canonical form of RAM. -/
def Memory.wf (font : List Byte) (m : Memory) : Bool := Memory.wfFrom font 0 m

/-- Consecutive bytes from `a`, each address reduced separately (R62). -/
def Memory.writeBytes (font : List Byte) (m : Memory) (a : Nat) : List Byte → Memory
  | [] => m
  | b :: rest => Memory.writeBytes font (Memory.write font m (a % Config.memSize) b) (a + 1) rest

/-! ## RAM accesses of the machine (20_memory.md R62) -/

/-- `MemRead(a, 1)`: the byte at `a mod 4096` (00_scope.md R10, R62). -/
def memRead (s : State) (a : Nat) : Byte := Memory.read s.params.font s.mem (a % Config.memSize)

/-- `MemWrite(a, 1, b)`: sets the byte at `a mod 4096` (R10, R62). -/
def memWrite (s : State) (a : Nat) (b : Byte) : State :=
  { s with mem := Memory.write s.params.font s.mem (a % Config.memSize) b }

/-- `MemWrite`s of consecutive bytes, in increasing address order (R66). -/
def memWriteBytes (s : State) (a : Nat) (bs : List Byte) : State :=
  { s with mem := Memory.writeBytes s.params.font s.mem a bs }

/-- `MemRead`s of `n` consecutive bytes, in increasing address order (R66). -/
def memReadBytes (s : State) (a n : Nat) : List Byte := (List.range n).map fun r => memRead s (a + r)

/-! ## Registers -/

/-- `V[x]` (R10, R21). -/
def readV (s : State) (x : Nibble) : Byte := s.v[x.toNat]

/-- `V[x] <- b` (R10, R21). -/
def writeV (s : State) (x : Nibble) (b : Byte) : State := { s with v := s.v.set x.toNat b }

/-- `V[X] <- result`, then `V[15] <- flag`: with `X = 0xF` the flag overwrites the result (43_load_alu.md R172). -/
def writeResultThenFlag (s : State) (x : Nibble) (result flag : Byte) : State := writeV (writeV s x result) 15 flag

/-- `V[0] <- b0`, `V[1] <- b1`, ... in this order, from register `k` on (44_index_memory.md R206). -/
def writeVFrom (s : State) (k : Nat) : List Byte → State
  | [] => s
  | b :: rest => writeVFrom (writeV s (BitVec.ofNat 4 k) b) (k + 1) rest

/-- `V[0]` to `V[x]`, in this order (R205). -/
def readVUpTo (s : State) (x : Nibble) : List Byte := (List.range (x.toNat + 1)).map fun k => readV s (BitVec.ofNat 4 k)

/-- `I <- a` (R23). -/
def writeI (s : State) (a : Word) : State := { s with i := a }

/-- `pc <- target`: no target is checked (R24, 42_control_flow.md R150). -/
def writePc (s : State) (target : Word) : State := { s with pc := target }

/-- `DT <- b` (R30). -/
def writeDt (s : State) (b : Byte) : State := { s with dt := b }

/-- `ST <- b` (R30). -/
def writeSt (s : State) (b : Byte) : State := { s with st := b }

/-- `wk <- w` (R33). -/
def writeWk (s : State) (w : KeyWait) : State := { s with wk := w }

/-- A skip when `c` holds: `pc <- (pc + 2) mod 65536` (R150). -/
def skipIf (c : Bool) (s : State) : State := { s with pc := if c then s.pc + 2 else s.pc }

/-- `pc <- (pc - 2) mod 65536`: the instruction repeats itself (45_keypad_timers.md R223). -/
def rewindPc (s : State) : State := { s with pc := s.pc - 2 }

/-- The byte taken from the input `rand8` is gone and the next byte of the stream stands there (R40, R184; log 4). -/
def takeRand (s : State) : State := { s with rand8 := Config.rand8 (s.randTaken + 1), randTaken := s.randTaken + 1 }

/-! ## The return stack (10_state.md R25, R26) -/

/-- `stack[k]`. -/
def stackEntry (s : State) (k : Nat) : Word := (s.stack[k]?).getD 0

/-- `stack[sp] <- pc ; sp <- sp + 1`, for `sp` below 12 (R153). -/
def pushPc (s : State) : State := { s with stack := s.stack.setIfInBounds s.sp.val s.pc, sp := s.sp + 1 }

/-- `sp <- sp - 1 ; pc <- stack[sp]`, for `sp` above 0 (R151). The popped entry stays. -/
def popPc (s : State) : State := { s with pc := stackEntry s (s.sp.val - 1), sp := s.sp - 1 }

/-! ## The display (41_display.md R140) -/

/-- `disp[y][x]`. -/
def Grid.pixel (g : Grid) (x y : Nat) : Bool := ((g[y]?).bind fun row => row[x]?).getD false

/-- `disp[y][x] <- b`. -/
def Grid.setPixel (g : Grid) (x y : Nat) (b : Bool) : Grid :=
  match g[y]? with
  | some row => g.setIfInBounds y (row.setIfInBounds x b)
  | none => g

/-- `disp[y][x]` of the state. -/
def pixel (s : State) (x y : Nat) : Bool := Grid.pixel s.disp x y

/-- The display replaced. -/
def writeDisp (s : State) (g : Grid) : State := { s with disp := g }

/-- Sprite bit `b` of a row, counted from the left: `(byte >> (7 - b)) & 1` (R140). -/
def spriteBit (row : Byte) (b : Nat) : Bool := row.getLsbD (7 - b)

/-- Bit `b` of a sprite row drawn from column `x0` of row `y`, by exclusive-or; the flag records a pixel turned off.
A column past 63 is not drawn, nor is any after it (R142). -/
def blitBit (x0 y : Nat) (row : Byte) (gh : Grid × Bool) (b : Nat) : Grid × Bool :=
  if x0 + b ≥ 64 then gh
  else
    let old := Grid.pixel gh.1 (x0 + b) y
    (Grid.setPixel gh.1 (x0 + b) y (old ^^ spriteBit row b), gh.2 || (spriteBit row b && old))

/-- The eight bits of one sprite row, from the left (R142). -/
def blitRow (x0 y : Nat) (row : Byte) (gh : Grid × Bool) : Grid × Bool := (List.range 8).foldl (blitBit x0 y row) gh

/-- The rows of a sprite, downward from row `y`; the first row past 31 ends the drawing (R142). -/
def blitRows (x0 : Nat) : Nat → List Byte → Grid × Bool → Grid × Bool
  | _, [], gh => gh
  | y, row :: rest, gh => if y ≥ 32 then gh else blitRows x0 (y + 1) rest (blitRow x0 y row gh)

/-! ## The key latch (10_state.md R29) -/

/-- `keys[k]`. -/
def keyHeld (s : State) (k : Nibble) : Bool := s.keys[k.toNat]

/-- `keys[k] <- b` (60_exceptions.md R260). -/
def writeKey (s : State) (k : Nibble) (b : Bool) : State := { s with keys := s.keys.set k.toNat b }

/-- The least `j` with `keys[j] = 1` (R223, D7). -/
def lowestKeyHeld (s : State) : Option Nibble := ((List.range 16).map (BitVec.ofNat 4)).find? (keyHeld s)

/-! ## The debug port (60_exceptions.md R263) -/

/-- `debug(rec)`: the record on `debug_out` when `DEBUG_EN`; nothing else (R10, R264). -/
def emit (s : State) (r : DebugRecord) : State :=
  { s with debugOut := if s.params.debugEn then s.debugOut ++ [r] else s.debugOut }

/-- The ports as a step begins: no record on `debug_out` (log 9), and the next assertion of `reset` one step nearer (log 2). -/
def beginStep (s : State) : State := { s with debugOut := [], resetIn := s.resetIn.map (· - 1) }

/-- The address the instruction was fetched from: `a`, where `pc = (a + 2) mod 65536` during execution (R121). -/
def fetchedFrom (s : State) : Word := s.pc - 2

/-- `status_out` (10_state.md R41). -/
def statusOut (s : State) : RunState × FaultLatch := (s.run, s.fault)

/-! ## Taking a fault (60_exceptions.md R243)

CORE has no trap: a raise latches its code, logs it, ends the batch and changes nothing else. There is no return
from it but a reset (R248, R249). -/

/-- `raise StackOverflow(a)`. -/
def raiseStackOverflow (s : State) : State :=
  { emit s (.stackOverflow (fetchedFrom s) s.inst.opcode) with fault := .stackOverflow, batchLeft := 0 }

/-- `raise StackUnderflow(a)`. -/
def raiseStackUnderflow (s : State) : State :=
  { emit s (.stackUnderflow (fetchedFrom s) s.inst.opcode) with fault := .stackUnderflow, batchLeft := 0 }

/-! ## Outcomes -/

/-- The three outcomes over this machine's types. -/
abbrev Result := Host.Outcome State Fault Refusal

/-- The next state changed by `f`; a fault or a refusal as it is. -/
def onNext (r : Result) (f : State → State) : Result :=
  match r with
  | .next s => .next (f s)
  | .fault e => .fault e
  | .refused e => .refused e

/-! ## The boot sequence (70_reset_and_hazards.md R291) -/

/-- The state the boot sequence leaves: the table of 10_state.md R42, with the ROM image copied to 0x200. It is
written element by element; the parameters, the inputs' streams and what was presented last are not elements of the
state that reset zeroes (logs 2, 4, 10). -/
def bootState (s : State) : State where
  mem := Memory.writeBytes s.params.font [] Config.entry s.params.rom
  v := Vector.replicate 16 0
  i := 0
  pc := 0x0200
  stack := Vector.replicate 12 0
  sp := 0
  disp := blankGrid
  keys := Vector.replicate 16 false
  dt := 0
  st := 0
  run := .running
  inst := InstLatch.zero
  wk := .none
  tone := false
  fault := .noFault
  batchLeft := 0
  pend := []
  resetIn := none
  rand8 := s.rand8
  displayOut := s.displayOut
  debugOut := s.debugOut
  params := s.params
  phase := .pad
  frames := s.frames
  randTaken := s.randTaken

/-- `Reset()`: refused with `RomTooLarge`, which records the length, when the image is longer than 3584 bytes (R291 step 0, R293,
60_exceptions.md R241). -/
def boot (s : State) : Result :=
  if s.params.rom.length > Config.romMax then .refused (.romTooLarge s.params.rom.length) else .next (bootState s)

end Sys2Proof.Machine
end

