-- ==== Sys2Proof/Machine/Operands.lean ====
section
/-! DEFINITION. The operand forms (30_encoding.md R93, 44_index_memory.md R200): what an instruction computes
from a register before it acts. -/

namespace Sys2Proof.Machine

/-- The address in `I` from which FX33, FX55, FX65 and DXYN count their displacements (R200). The sum is taken as a number and
reduced modulo 4096 by the access itself: 4096 divides 65536, so a sum that wrapped first gives the same byte (R62). -/
def dataAddress (s : State) : Nat := s.i.toNat

/-- The key number of EX9E and EXA1: `V[X] & 0x0F` (45_keypad_timers.md R220, R221). -/
def keyNumber (s : State) (x : Nibble) : Nibble := (readV s x).extractLsb' 0 4

/-- FX29: `zext_16(V[X] & 0x0F) * 5` (44_index_memory.md R203). -/
def glyphAddress (b : Byte) : Word := zext16 (b &&& 0x0F) * 5

/-- FX33: the hundreds, the tens and the ones (R204). -/
def bcdDigits (b : Byte) : List Byte := [b / 100, (b / 10) % 10, b % 10]

/-- DXYN: the start column `V[X] mod 64` (41_display.md R142). -/
def startColumn (s : State) (x : Nibble) : Nat := (readV s x).toNat % 64

/-- DXYN: the start row `V[Y] mod 32` (R142). -/
def startRow (s : State) (y : Nibble) : Nat := (readV s y).toNat % 32

/-- DXYN: the sprite rows, `N` bytes from `I` (R142). A row clipped at the bottom is not drawn; that its byte is read
here all the same changes nothing, a read having no side effect (R66). -/
def spriteRows (s : State) (n : Nibble) : List Byte := memReadBytes s (dataAddress s) n.toNat

/-- BNNN: `(zext_16(V[0]) + zext_16(NNN)) mod 4096` (42_control_flow.md R158). -/
def offsetTarget (s : State) (nnn : Addr12) : Word := (zext16 (readV s 0) + zext16 nnn) % 4096

/-- FX55, FX65: `(I + X + 1) mod 65536` (R205, R206). -/
def indexAfterTransfer (s : State) (x : Nibble) : Word := s.i + zext16 x + 1

end Sys2Proof.Machine
end

