-- ==== Sys2Proof/Machine/Control.lean ====
section
/-! DEFINITION. Control-transfer instructions (42_control_flow.md) and the unknown opcode
(40_instruction_cycle.md R124). A meaning runs after the fetch: `pc` is the address of the next instruction (R121). -/

namespace Sys2Proof.Machine

/-- 00EE (R151): with `sp = 0` it raises StackUnderflow and nothing else happens. -/
def execRet (s : State) : Result :=
  if s.sp = 0 then .next (raiseStackUnderflow s) else .next (popPc s)

/-- 1NNN (R152). -/
def execJpNnn (nnn : Addr12) (s : State) : Result := .next (writePc s (zext16 nnn))

/-- 2NNN (R153): with `sp = 12` it raises StackOverflow and nothing else happens. -/
def execCallNnn (nnn : Addr12) (s : State) : Result :=
  if s.sp = 12 then .next (raiseStackOverflow s) else .next (writePc (pushPc s) (zext16 nnn))

/-- 3XNN (R154). -/
def execSeVxNn (x : Nibble) (nn : Byte) (s : State) : Result := .next (skipIf (readV s x == nn) s)

/-- 4XNN (R155). -/
def execSneVxNn (x : Nibble) (nn : Byte) (s : State) : Result := .next (skipIf (readV s x != nn) s)

/-- 5XY0 (R156). -/
def execSeVxVy (x y : Nibble) (s : State) : Result := .next (skipIf (readV s x == readV s y) s)

/-- 9XY0 (R157). -/
def execSneVxVy (x y : Nibble) (s : State) : Result := .next (skipIf (readV s x != readV s y) s)

/-- BNNN (R158). -/
def execJpV0Nnn (nnn : Addr12) (s : State) : Result := .next (writePc s (offsetTarget s nnn))

/-- A word that is no instruction (R124): a record on `debug_out` and nothing else. -/
def execUnknown (op : Word) (s : State) : Result := .next (emit s (.unknownOpcode (fetchedFrom s) op))

end Sys2Proof.Machine
end

