-- ==== Sys2Proof/Machine/Flags.lean ====
section
/-! DEFINITION. Every value the instructions write to `VF` as a flag (10_state.md R22, 43_load_alu.md R170). -/

namespace Sys2Proof.Machine

/-- A condition as the byte 1 or 0. -/
def flagByte (c : Bool) : Byte := if c then 1 else 0

/-- 8XY4: 1 if the 9-bit sum exceeds 255, else 0 (R179). -/
def carryFlag (a b : Byte) : Byte := flagByte (decide (a.toNat + b.toNat > 255))

/-- 8XY5 and 8XY7: 1 if no borrow is needed, the minuend being at least the subtrahend, else 0 (R180, R182). -/
def notBorrowFlag (minuend subtrahend : Byte) : Byte := flagByte (decide (minuend.toNat ≥ subtrahend.toNat))

/-- 8XY6: bit 0 of the value shifted (R181). -/
def shiftedOutRight (a : Byte) : Byte := a &&& 1

/-- 8XYE: bit 7 of the value shifted (R183). -/
def shiftedOutLeft (a : Byte) : Byte := (a >>> 7) &&& 1

/-- 8XY1, 8XY2, 8XY3: always 0 (R176 to R178). -/
def logicFlag : Byte := 0

/-- DXYN: 1 if a lit pixel was turned off, else 0 (R142). -/
def collisionFlag (hit : Bool) : Byte := flagByte hit

end Sys2Proof.Machine
end

