-- ==== Sys2Proof/Machine/Display.lean ====
section
/-! DEFINITION. Display instructions (41_display.md). -/

namespace Sys2Proof.Machine

/-- 00E0 (R141). -/
def execCls (s : State) : Result := .next (writeDisp s blankGrid)

/-- DXYN (R142): the coordinates are read before `VF` is written; `VF` is always written. -/
def execDrwVxVyN (x y n : Nibble) (s : State) : Result :=
  let drawn := blitRows (startColumn s x) (startRow s y) (spriteRows s n) (s.disp, false)
  .next (writeV (writeDisp s drawn.1) 15 (collisionFlag drawn.2))

end Sys2Proof.Machine
end

