-- ==== Sys2Proof/Machine/IndexMemory.lean ====
section
/-! DEFINITION. Index-register and memory instructions (44_index_memory.md). -/

namespace Sys2Proof.Machine

/-- ANNN (R201). -/
def execLdINnn (nnn : Addr12) (s : State) : Result := .next (writeI s (zext16 nnn))

/-- FX1E (R202): `VF` is not written. -/
def execAddIVx (x : Nibble) (s : State) : Result := .next (writeI s (s.i + zext16 (readV s x)))

/-- FX29 (R203). -/
def execLdFVx (x : Nibble) (s : State) : Result := .next (writeI s (glyphAddress (readV s x)))

/-- FX33 (R204): `I` is unchanged. -/
def execLdBVx (x : Nibble) (s : State) : Result := .next (memWriteBytes s (dataAddress s) (bcdDigits (readV s x)))

/-- FX55 (R205): every byte goes to the old `I` plus `i`. -/
def execLdIndVx (x : Nibble) (s : State) : Result :=
  .next (writeI (memWriteBytes s (dataAddress s) (readVUpTo s x)) (indexAfterTransfer s x))

/-- FX65 (R206): every byte comes from the old `I` plus `i`. -/
def execLdVxInd (x : Nibble) (s : State) : Result :=
  .next (writeI (writeVFrom s 0 (memReadBytes s (dataAddress s) (x.toNat + 1))) (indexAfterTransfer s x))

end Sys2Proof.Machine
end

