-- ==== Sys2Proof/Machine/KeypadTimers.lean ====
section
/-! DEFINITION. Keypad and timer instructions (45_keypad_timers.md). -/

namespace Sys2Proof.Machine

/-- EX9E (R220). -/
def execSkpVx (x : Nibble) (s : State) : Result := .next (skipIf (keyHeld s (keyNumber s x)) s)

/-- EXA1 (R221). -/
def execSknpVx (x : Nibble) (s : State) : Result := .next (skipIf (!keyHeld s (keyNumber s x)) s)

/-- FX07 (R222). -/
def execLdVxDt (x : Nibble) (s : State) : Result := .next (writeV s x s.dt)

/-- FX0A (R223, R226): it never suspends, it completes at once and may leave `pc` pointing at itself. -/
def execLdVxK (x : Nibble) (s : State) : Result :=
  match s.wk with
  | .none =>
    match lowestKeyHeld s with
    | some k0 => .next (rewindPc (writeWk s (.seen k0)))
    | none => .next (rewindPc s)
  | .seen k =>
    if keyHeld s k then .next (rewindPc s)
    else .next (writeWk (writeV s x (zext8 k)) .none)

/-- FX15 (R224). -/
def execLdDtVx (x : Nibble) (s : State) : Result := .next (writeDt s (readV s x))

/-- FX18 (R225): `tone` is not touched. -/
def execLdStVx (x : Nibble) (s : State) : Result := .next (writeSt s (readV s x))

end Sys2Proof.Machine
end

