-- ==== Sys2Proof/Machine/LoadAlu.lean ====
section
/-! DEFINITION. Register load, arithmetic, logic, shift and random instructions (43_load_alu.md). The right-hand
sides read the registers before anything is written (R171); the flag is written last (R172). -/

namespace Sys2Proof.Machine

/-- 6XNN (R173). -/
def execLdVxNn (x : Nibble) (nn : Byte) (s : State) : Result := .next (writeV s x nn)

/-- 7XNN (R174): no carry flag. -/
def execAddVxNn (x : Nibble) (nn : Byte) (s : State) : Result := .next (writeV s x (readV s x + nn))

/-- 8XY0 (R175). -/
def execLdVxVy (x y : Nibble) (s : State) : Result := .next (writeV s x (readV s y))

/-- 8XY1 (R176). -/
def execOrVxVy (x y : Nibble) (s : State) : Result := .next (writeResultThenFlag s x (readV s x ||| readV s y) logicFlag)

/-- 8XY2 (R177). -/
def execAndVxVy (x y : Nibble) (s : State) : Result := .next (writeResultThenFlag s x (readV s x &&& readV s y) logicFlag)

/-- 8XY3 (R178). -/
def execXorVxVy (x y : Nibble) (s : State) : Result := .next (writeResultThenFlag s x (readV s x ^^^ readV s y) logicFlag)

/-- 8XY4 (R179). -/
def execAddVxVy (x y : Nibble) (s : State) : Result :=
  .next (writeResultThenFlag s x (readV s x + readV s y) (carryFlag (readV s x) (readV s y)))

/-- 8XY5 (R180). -/
def execSubVxVy (x y : Nibble) (s : State) : Result :=
  .next (writeResultThenFlag s x (readV s x - readV s y) (notBorrowFlag (readV s x) (readV s y)))

/-- 8XY6 (R181): the source is `V[Y]`. -/
def execShrVxVy (x y : Nibble) (s : State) : Result :=
  .next (writeResultThenFlag s x (readV s y >>> 1) (shiftedOutRight (readV s y)))

/-- 8XY7 (R182). -/
def execSubnVxVy (x y : Nibble) (s : State) : Result :=
  .next (writeResultThenFlag s x (readV s y - readV s x) (notBorrowFlag (readV s y) (readV s x)))

/-- 8XYE (R183): the source is `V[Y]`. -/
def execShlVxVy (x y : Nibble) (s : State) : Result :=
  .next (writeResultThenFlag s x (readV s y <<< 1) (shiftedOutLeft (readV s y)))

/-- CXNN (R184): one byte is taken from `rand8`, also when `NN = 0`. -/
def execRndVxNn (x : Nibble) (nn : Byte) (s : State) : Result := .next (takeRand (writeV s x (s.rand8 &&& nn)))

end Sys2Proof.Machine
end

