-- ==== Sys2Proof/Machine/Frame.lean ====
section
/-! DEFINITION. The instruction cycle (40_instruction_cycle.md R120) and the frame scheduler with its input
unit, timers and presentation (60_exceptions.md R250 to R261). -/

namespace Sys2Proof.Machine

/-- Where in the frame CORE stands next (R250; log 11). -/
def setPhase (s : State) (p : Phase) : State := { s with phase := p }

/-! ## The instruction cycle -/

/-- Step 1, fetch: the bytes at `pc` and `pc + 1`, each reduced modulo 4096, the first the most significant (R121, R63). -/
def fetchWord (s : State) : Word := wordOfBytes (memRead s s.pc.toNat) (memRead s (s.pc.toNat + 1))

/-- Step 2, advance (R121). -/
def advancePc (s : State) : State := { s with pc := s.pc + 2 }

/-- Step 3, decode: the latch takes the word and its five fields (R122, R92). -/
def latchInst (s : State) (op : Word) : State :=
  { s with inst := { opcode := op, nnn := fieldNnn op, nn := fieldNn op, n := fieldN op, x := fieldX op, y := fieldY op } }

/-- Step 4, trace (R126, R263). -/
def traceRecord (s : State) (a op : Word) : DebugRecord := .trace a op s.v s.i s.sp s.dt s.st

/-- Steps 1 to 4: the state in which the instruction executes. -/
def beginCycle (s : State) : State :=
  emit (latchInst (advancePc s) (fetchWord s)) (traceRecord s s.pc (fetchWord s))

/-- Step 6, count: one slot less, unless a fault was raised, which has already set `batch_left` to 0 (R120, R243). -/
def countCycle (s : State) : State :=
  { s with batchLeft := if s.fault = .noFault then s.batchLeft - 1 else s.batchLeft }

/-- The six steps of R120, indivisible (R125). -/
def instructionCycle (s : State) : Result := onNext (exec (decodeWord (fetchWord s)) (beginCycle s)) countCycle

/-- When an instruction cycle takes place, inside step 2 of a frame (R127). -/
def canCycle (s : State) : Bool :=
  decide (s.run = .running) && decide (s.fault = .noFault) && decide (0 < s.batchLeft)

/-! ## Step 1: input -/

/-- `run <- r` (R253). -/
def writeRun (s : State) (r : RunState) : State := { s with run := r }

/-- What `PauseToggle` makes of `run` (R253). -/
def toggledRun : RunState → RunState
  | .running => .paused
  | .paused => .running
  | .quit => .quit
  | .restart => .restart

/-- What `RestartReq` makes of `run` (R253). -/
def restartedRun : RunState → RunState
  | .running => .restart
  | .paused => .restart
  | .quit => .quit
  | .restart => .restart

/-- What a control event or a key event does (R253, R260). -/
def applyEvent (s : State) : Event → State
  | .keyDown k => writeKey s k true
  | .keyUp k => writeKey s k false
  | .quit => writeRun s .quit
  | .pauseToggle => writeRun s (toggledRun s.run)
  | .restartReq => writeRun s (restartedRun s.run)

/-- The events of `pend` in arrival order, and `pend` emptied (R261). -/
def drain (s : State) : State := { s.pend.foldl applyEvent s with pend := [] }

/-! ## Step 2: execute -/

/-- `IPF = ceil(instPerSec / 60)` (00_scope.md R6). -/
def ipf (p : Params) : Nat := (p.instPerSec + 59) / 60

/-- `batch_left <- IPF` (R250). -/
def startBatch (s : State) : State := { s with batchLeft := ipf s.params }

/-- The case on `run` after the drain (R250, R252): `Quit` stops for good, `Restart` resets, `Paused` and a faulted
core run no instruction, `Running` starts a batch of `IPF`. -/
def selectBatch (s : State) : Result :=
  match s.run with
  | .quit => .next (setPhase s .stopped)
  | .restart => boot s
  | .paused => .next (setPhase s .tick)
  | .running =>
    if s.fault = .noFault then .next (setPhase (startBatch s) .batch)
    else .next (setPhase s .tick)

/-- One turn of the loop `while batch_left > 0` (R250, R251). -/
def batchStep (s : State) : Result :=
  if canCycle s then instructionCycle s else .next (setPhase s .tick)

/-! ## Steps 3 to 5 -/

/-- `TimerTick()` (R254): `tone` is written from `ST` before its decrement (R255). -/
def timerTick (s : State) : State :=
  { s with
    dt := if s.dt = 0 then 0 else s.dt - 1
    st := if s.st = 0 then 0 else s.st - 1
    tone := decide (s.st ≠ 0) }

/-- `display_out <- disp` (R258). -/
def presentDisplay (s : State) : State := { s with displayOut := s.disp }

/-- The wait for the next `frame_tick`, which then comes: the events that arrived meanwhile stand at the end of `pend`,
and before which step until the next tick `reset` is asserted, if at all, is drawn (R250 step 5, R261, R267, R290; logs 1, 2, 12). -/
def awaitFrame (s : State) : State :=
  { s with
    pend := s.pend ++ Config.arrivals s.frames
    resetIn := Config.resetAt s.frames
    frames := s.frames + 1 }

/-! ## One step of the machine -/

/-- The next step of the frame (R250). -/
def frameStep (s : State) : Result :=
  match s.phase with
  | .pad => .next (setPhase (awaitFrame s) .input)
  | .input => .next (setPhase (drain s) .execute)
  | .execute => selectBatch s
  | .batch => batchStep s
  | .tick => .next (setPhase (timerTick s) .present)
  | .present => .next (setPhase (presentDisplay s) .pad)
  | .stopped => .next s

/-- One step: nothing after `Stop()` (R252; log 3); else the boot sequence when `reset` is asserted (R290), whatever step of the
frame comes next; else that step. -/
def machineStep (s : State) : Result :=
  if s.phase = .stopped then .next s
  else if s.resetIn = some 0 then boot (beginStep s)
  else frameStep (beginStep s)

/-- The word `op` stored where the next fetch takes it from, and the machine where a fetch comes next: inside a batch, running,
not faulted, with a slot left, `reset` not asserted (R127). -/
def placeWord (s : State) (op : Word) : State :=
  { memWriteBytes s s.pc.toNat [hiByte op, loByte op] with
    run := .running
    fault := .noFault
    batchLeft := max s.batchLeft 1
    resetIn := none
    phase := .batch }

end Sys2Proof.Machine
end

