-- ==== Sys2Proof/Machine/Step.lean ====
section
/-! DEFINITION. One step of CORE, and a word placed where it fetches. -/

namespace Sys2Proof.Machine

/-- One step: an instruction cycle, or one of the other numbered steps of a frame (60_exceptions.md R250). -/
def step (s : State) : Host.Outcome State Fault Refusal := machineStep s

/-- `s` with the word `w` stored where `step` fetches next. Every instruction is one word (30_encoding.md R90), so the number of
bits a row has, the first argument, decides nothing. -/
def State.withFetchWord (s : State) (_nbits w : Nat) : State := placeWord s (BitVec.ofNat 16 w)

end Sys2Proof.Machine
end

