-- ==== Sys2Proof/Certificates/Slice0/Obligations.lean ====
section
/-! DEFINITION. The statements for the provers, and the few notions they share. `s` is the state in which an instruction
executes, after the fetch: `pc` is the address of the next instruction (40_instruction_cycle.md R121). -/

namespace Sys2Proof.Claims

open Sys2Proof.Machine

/-- Every byte of RAM reads as before. -/
def RamSame (s t : State) : Prop := ∀ a, memRead t a = memRead s a

/-- Every byte of RAM outside the `len` bytes stored from `a`, each address modulo 4096, reads as before. -/
def RamSameOutside (s t : State) (a len : Nat) : Prop :=
  ∀ c, (∀ k < len, (a + k) % 4096 ≠ c % 4096) → memRead t c = memRead s c

/-- Every data register but those listed is as before. -/
def RegsSame (s t : State) (but : List Nibble) : Prop := ∀ y, y ∉ but → readV t y = readV s y

/-- Only `V[x]` changes, and it holds `val`. -/
def WritesOnlyV (s t : State) (x : Nibble) (val : Nat) : Prop :=
  (readV t x).toNat = val ∧ RegsSame s t [x] ∧ t = { s with v := t.v } ∧ RamSame s t

/-- `V[x] <- val`, then `VF <- flag`, and nothing else: with `x = 15` the flag is what stays (43_load_alu.md R172). -/
def WritesResultThenFlag (s t : State) (x : Nibble) (val flag : Nat) : Prop :=
  (x ≠ 15 → (readV t x).toNat = val) ∧ (readV t 15).toNat = flag ∧ RegsSame s t [x, 15] ∧
  t = { s with v := t.v } ∧ RamSame s t

/-- A skip when `c` holds, and nothing else (42_control_flow.md R150). -/
def SkipsWhen (c : Bool) (s t : State) : Prop :=
  t.pc.toNat = (if c then (s.pc.toNat + 2) % 65536 else s.pc.toNat) ∧ t = { s with pc := t.pc } ∧ RamSame s t

/-- Whether the sprite DXYN draws has a bit 1 at column `px` of row `py`: the bit of the byte at `I` plus the row, columns and
rows counted from the start point, and no continuation past it on the left or top (41_display.md R140, R142). -/
def spriteOn (s : State) (x y n : Nibble) (px py : Nat) : Bool :=
  let x0 := (readV s x).toNat % 64
  let y0 := (readV s y).toNat % 32
  decide (x0 ≤ px ∧ px < x0 + 8 ∧ y0 ≤ py ∧ py < y0 + n.toNat) &&
    (memRead s (s.i.toNat + (py - y0))).getLsbD (7 - (px - x0))

/-- The two bytes at `pc` are the instruction `i`. -/
def InstrAt (s : State) (i : Instr) : Prop :=
  decode [memRead s s.pc.toNat, memRead s (s.pc.toNat + 1)] = .ok (i, [])

/-- The next step is an instruction cycle (40_instruction_cycle.md R127). -/
def CycleNext (s : State) : Prop :=
  s.phase = .batch ∧ s.run = .running ∧ s.fault = .noFault ∧ 0 < s.batchLeft ∧ s.resetIn ≠ some 0

/-- The next step is the boot sequence: `reset` is asserted, or a frame finds `run = Restart` (70_reset_and_hazards.md R290; not once
CORE has stopped: log 3). -/
def BootNext (s : State) : Prop :=
  s.phase ≠ .stopped ∧ (s.resetIn = some 0 ∨ (s.phase = .execute ∧ s.run = .restart))

/-- `resetIn` after `k` steps: its next assertion is `k` steps nearer (the model's countdown, log 2). -/
def resetAfter (k : Nat) (s : State) : Option Nat := s.resetIn.map (· - k)

/-- The state in which the instruction at `pc` executes: steps 1 to 4 of 40_instruction_cycle.md R120, from a port without
records (log 9) and with the next assertion of `reset` one step nearer (log 2). -/
def afterFetch (s : State) : State :=
  let op : Word := memRead s s.pc.toNat ++ memRead s (s.pc.toNat + 1)
  { s with
    pc := s.pc + 2
    inst :=
      { opcode := op, nnn := op.extractLsb' 0 12, nn := op.extractLsb' 0 8, n := op.extractLsb' 0 4,
        x := op.extractLsb' 8 4, y := op.extractLsb' 4 4 }
    resetIn := resetAfter 1 s
    debugOut := if s.params.debugEn then [.trace s.pc op s.v s.i s.sp s.dt s.st] else [] }

/-- The values of 10_state.md R42, with the parameters as they were. -/
structure Booted (s t : State) : Prop where
  font : ∀ a < 80, memRead t a = s.params.font.getD a 0
  gap : ∀ a, 80 ≤ a → a < 0x200 → memRead t a = 0
  rom : ∀ j, j < 3584 → memRead t (0x200 + j) = s.params.rom.getD j 0
  registers : ∀ x, readV t x = 0
  index : t.i = 0
  pc : t.pc = 0x0200
  stack : ∀ k < 12, stackEntry t k = 0
  sp : t.sp = 0
  display : ∀ x y, pixel t x y = false
  keys : ∀ k, keyHeld t k = false
  delay : t.dt = 0
  sound : t.st = 0
  run : t.run = .running
  inst : t.inst = ⟨0, 0, 0, 0, 0, 0⟩
  wait : t.wk = .none
  tone : t.tone = false
  fault : t.fault = .noFault
  batch : t.batchLeft = 0
  pend : t.pend = []
  params : t.params = s.params

/-- The invariant: RAM in canonical form (log 16); `batch_left` at most `IPF` (10_state.md R36), 0 after a fault
(60_exceptions.md R243) and 0 outside a batch; a batch only while running (40_instruction_cycle.md R127); `Quit` and `Restart`
only between the drain and the end of their frame (R252); no record without `DEBUG_EN` (R263). -/
structure Inv (s : State) : Prop where
  memory : Memory.wf s.params.font s.mem = true
  bound : s.batchLeft ≤ (s.params.instPerSec + 59) / 60
  faulted : s.fault ≠ .noFault → s.batchLeft = 0
  onlyInBatch : 0 < s.batchLeft → s.phase = .batch
  batchRuns : s.phase = .batch → s.run = .running
  quit : s.run = .quit → s.phase = .execute ∨ s.phase = .stopped
  restart : s.run = .restart → s.phase = .execute
  stopped : s.phase = .stopped → s.run = .quit
  silent : s.params.debugEn = false → s.debugOut = []

/-- While a key is recorded, the instruction at `pc` is an FX0A (10_state.md R33). -/
def WaitPinned (s : State) : Prop := s.wk ≠ .none → ∃ x, InstrAt s (.ldVxK x)

/-- The state without what the tracer shows: `DEBUG_EN` and `debug_out`. -/
def untraced (s : State) : State := { s with debugOut := [], params := { s.params with debugEn := false } }

/-- Two states that differ at most in bits 15 to 12 of `pc` and of the return addresses, and in the records that show them. -/
def SameUpToTopBits (s s' : State) : Prop :=
  s' = { s with pc := s'.pc, stack := s'.stack, debugOut := s'.debugOut } ∧
  s.pc.toNat % 4096 = s'.pc.toNat % 4096 ∧
  ∀ k, (stackEntry s k).toNat % 4096 = (stackEntry s' k).toNat % 4096

/-- `run` after an event: the table of 60_exceptions.md R253. -/
def runAfter : RunState → Event → RunState
  | _, .quit => .quit
  | .running, .pauseToggle => .paused
  | .paused, .pauseToggle => .running
  | .running, .restartReq => .restart
  | .paused, .restartReq => .restart
  | r, _ => r

/-- No event of the list is about key `k`. -/
def NoKeyEvent (evs : List Event) (k : Nibble) : Prop := Event.keyDown k ∉ evs ∧ Event.keyUp k ∉ evs

/-- The data registers an instruction writes, beside the ones 10_state.md R22 lists: those named by a field. -/
def mayWriteV : Instr → Nibble → Bool
  | .ldVxNn x _, y | .addVxNn x _, y | .ldVxVy x _, y | .rndVxNn x _, y | .ldVxDt x, y | .ldVxK x, y => x == y
  | .orVxVy x _, y | .andVxVy x _, y | .xorVxVy x _, y | .addVxVy x _, y | .subVxVy x _, y | .shrVxVy x _, y
  | .subnVxVy x _, y | .shlVxVy x _, y => x == y || y == 15
  | .drwVxVyN _ _ _, y => y == 15
  | .ldVxInd x, y => decide (y ≤ x)
  | .cls, _ | .ret, _ | .jpNnn _, _ | .callNnn _, _ | .seVxNn _ _, _ | .sneVxNn _ _, _ | .seVxVy _ _, _ | .sneVxVy _ _, _
  | .ldINnn _, _ | .jpV0Nnn _, _ | .skpVx _, _ | .sknpVx _, _ | .ldDtVx _, _ | .ldStVx _, _ | .addIVx _, _ | .ldFVx _, _
  | .ldBVx _, _ | .ldIndVx _, _ | .unknown _, _ => false

/-- The instructions that write `I` (45_keypad_timers.md R227). -/
def writesIndex : Instr → Bool
  | .ldINnn _ | .addIVx _ | .ldFVx _ | .ldIndVx _ | .ldVxInd _ => true
  | _ => false

/-- The instructions that write RAM (10_state.md R27). -/
def writesRam : Instr → Bool
  | .ldBVx _ | .ldIndVx _ => true
  | _ => false

/-- The instructions that write `sp`, `stack` and, by a raise, `fault` (R227). -/
def writesStack : Instr → Bool
  | .ret | .callNnn _ => true
  | _ => false

/-- The instructions that write `pc` beyond the advance (R227). -/
def writesPc : Instr → Bool
  | .ret | .jpNnn _ | .callNnn _ | .jpV0Nnn _ | .ldVxK _ => true
  | .seVxNn _ _ | .sneVxNn _ _ | .seVxVy _ _ | .sneVxVy _ _ | .skpVx _ | .sknpVx _ => true
  | _ => false

/-- The instructions that write `disp` (R227). -/
def writesDisplay : Instr → Bool
  | .cls | .drwVxVyN _ _ _ => true
  | _ => false

end Sys2Proof.Claims

open Sys2Proof Sys2Proof.Machine Sys2Proof.Claims

/-! ## Encoding -/

/-- Decoding the two bytes of a well-formed instruction gives it back, and leaves the bytes after it (30_encoding.md R91, R92,
R94, R100). -/
def Obligations.DecodeOfEncode : Prop :=
  ∀ (i : Instr) (rest : List Byte), i.wellFormed = true → decode (encode i ++ rest) = .ok (i, rest)

/-- Any two bytes decode to a well-formed instruction whose encoding they are: no word has two meanings and no bit is dropped. -/
def Obligations.EncodeOfDecode : Prop :=
  ∀ (hi lo : Byte) (rest : List Byte), ∃ i, decode (hi :: lo :: rest) = .ok (i, rest) ∧ i.wellFormed = true ∧ encode i = [hi, lo]

/-- 30_encoding.md R94: a word selects the one row whose pattern it matches; a word that matches none is unknown. -/
def Obligations.DecoderSelectsTheMatchingRow : Prop :=
  ∀ op : Word,
    (∀ r ∈ opcodeTable, op &&& r.mask = r.value →
      (decodeWord op).row = some r ∧ ∀ r' ∈ opcodeTable, op &&& r'.mask = r'.value → r' = r) ∧
    ((∀ r ∈ opcodeTable, op &&& r.mask ≠ r.value) → decodeWord op = .unknown op)

/-- The unknown words are those of the table of 30_encoding.md R101 (its 0x9 row is the spec's decision D4). -/
def Obligations.UnknownWordsAreThoseListed : Prop :=
  ∀ op : Word,
    let major := op.extractLsb' 12 4
    let n := op.extractLsb' 0 4
    let nn := op.extractLsb' 0 8
    decodeWord op = .unknown op ↔
      (major = 0x0 ∧ op ≠ 0x00E0 ∧ op ≠ 0x00EE) ∨
      (major = 0x5 ∧ n ≠ 0) ∨
      (major = 0x8 ∧ n ∈ ([0x8, 0x9, 0xA, 0xB, 0xC, 0xD, 0xF] : List Nibble)) ∨
      (major = 0x9 ∧ n ≠ 0) ∨
      (major = 0xE ∧ nn ≠ 0x9E ∧ nn ≠ 0xA1) ∨
      (major = 0xF ∧ nn ∉ ([0x07, 0x0A, 0x15, 0x18, 0x1E, 0x29, 0x33, 0x55, 0x65] : List Byte))

/-- Words written out from 30_encoding.md R100, one of each format, decode to the instruction they stand for. -/
def Obligations.SampleWordsDecode : Prop :=
  decode [0x00, 0xEE] = .ok (.ret, []) ∧
  decode [0xB3, 0x21] = .ok (.jpV0Nnn 0x321, []) ∧
  decode [0x6A, 0x42] = .ok (.ldVxNn 0xA 0x42, []) ∧
  decode [0x81, 0x2E] = .ok (.shlVxVy 0x1 0x2, []) ∧
  decode [0xD1, 0x2F] = .ok (.drwVxVyN 0x1 0x2 0xF, []) ∧
  decode [0xF4, 0x29] = .ok (.ldFVx 0x4, []) ∧
  decode [0x51, 0x21] = .ok (.unknown 0x5121, [])

/-! ## The instruction cycle -/

/-- 40_instruction_cycle.md R120: where an instruction cycle takes place, the step fetches, advances, latches, traces (the fields
of the record are the spec's decision D13), executes the instruction the bytes at `pc` are, and counts. -/
def Obligations.StepRunsTheDecodedInstruction : Prop :=
  ∀ (s : State) (i : Instr), CycleNext s → InstrAt s i →
    ∃ t, exec i (afterFetch s) = .next t ∧
      step s = .next { t with batchLeft := if t.fault = .noFault then t.batchLeft - 1 else t.batchLeft }

/-- Every instruction completes in every state: none has a fault or a refusal of the model. That a CALL at `sp = 12` and a RET at
`sp = 0` complete, with `fault` set in the next state, is the model's reading of 60_exceptions.md R243 and R244, log 14. -/
def Obligations.EveryInstructionCompletes : Prop := ∀ (i : Instr) (s : State), ∃ t, exec i s = .next t

/-- A step is refused only for a ROM image longer than 3584 bytes, at a boot (70_reset_and_hazards.md R293; the refusal is the
spec's decision D20, log 15). It never ends in a fault: that the StackOverflow and StackUnderflow of 60_exceptions.md R241 are next
states with `fault` set, where R243 speaks of a fault outcome, is the model's reading, log 14. -/
def Obligations.StepStopsOnlyForAnOversizeRom : Prop :=
  ∀ s : State, (∃ t, step s = .next t) ∨ (BootNext s ∧ 3584 < s.params.rom.length ∧ step s = .refused (.romTooLarge s.params.rom.length))

/-- Outside an instruction cycle and a boot, a step changes no element the executor owns but the timers and the batch counter
(40_instruction_cycle.md R127, 10_state.md R38): in a pause, after a fault (D11, log 14) and after `Quit` (D28, log 3) no instruction
executes. -/
def Obligations.NoInstructionOutsideACycle : Prop :=
  ∀ s t : State, step s = .next t → ¬ CycleNext s → ¬ BootNext s →
    t.pc = s.pc ∧ t.v = s.v ∧ t.i = s.i ∧ t.sp = s.sp ∧ t.stack = s.stack ∧ t.disp = s.disp ∧ t.wk = s.wk ∧
    t.fault = s.fault ∧ t.inst = s.inst ∧ RamSame s t

/-- What an instruction may write, by instruction: the table of 45_keypad_timers.md R227, RAM (10_state.md R27) and the data
registers (R21, R22). No other state changes. -/
def Obligations.InstructionsWriteOnlyTheirState : Prop :=
  ∀ (i : Instr) (s t : State), exec i s = .next t →
    (∀ y, mayWriteV i y = false → readV t y = readV s y) ∧
    (writesIndex i = false → t.i = s.i) ∧
    (writesRam i = false → RamSame s t) ∧
    (writesStack i = false → t.sp = s.sp ∧ t.stack = s.stack ∧ t.fault = s.fault ∧ t.batchLeft = s.batchLeft) ∧
    (writesPc i = false → t.pc = s.pc) ∧
    (writesDisplay i = false → t.disp = s.disp) ∧
    ((∀ x, i ≠ .ldDtVx x) → t.dt = s.dt) ∧
    ((∀ x, i ≠ .ldStVx x) → t.st = s.st) ∧
    ((∀ x, i ≠ .ldVxK x) → t.wk = s.wk) ∧
    ((∀ x nn, i ≠ .rndVxNn x nn) → t.rand8 = s.rand8 ∧ t.randTaken = s.randTaken) ∧
    t.keys = s.keys ∧ t.run = s.run ∧ t.tone = s.tone ∧ t.pend = s.pend ∧ t.inst = s.inst ∧ t.resetIn = s.resetIn ∧
    t.displayOut = s.displayOut ∧ t.params = s.params ∧ t.phase = s.phase ∧ t.frames = s.frames

/-! ## Memory -/

/-- A read after a store of a byte: the byte stored at its address modulo 4096, every other byte as before (20_memory.md R62,
R66; the premise is the model's canonical form, log 16, an invariant of every step). -/
def Obligations.ReadAfterWrite : Prop :=
  ∀ (s : State) (a c : Nat) (b : Byte), Memory.wf s.params.font s.mem = true →
    memRead (memWrite s a b) c = if a % 4096 = c % 4096 then b else memRead s c

/-- RAM contents have one representation: canonical memories that read alike at the 4096 addresses are the same data (log 16). -/
def Obligations.CanonicalMemoriesReadingAlikeAreEqual : Prop :=
  ∀ s t : State, t.params = s.params → Memory.wf s.params.font s.mem = true → Memory.wf t.params.font t.mem = true →
    (∀ a < 4096, memRead t a = memRead s a) → t.mem = s.mem

/-- A word placed by `withFetchWord` is the instruction the next step runs, and an instruction cycle comes next (log 5). -/
def Obligations.PlacedWordIsRun : Prop :=
  ∀ (s : State) (w : Nat) (i : Instr), Memory.wf s.params.font s.mem = true → decodeTableWord 16 w = some i →
    InstrAt (s.withFetchWord 16 w) i ∧ CycleNext (s.withFetchWord 16 w)

/-! ## Register load, arithmetic, logic, shift, random -/

/-- 43_load_alu.md R173, R175: 6XNN and 8XY0. -/
def Obligations.LoadImmediateAndCopyRegister : Prop :=
  (∀ (x : Nibble) (nn : Byte), decodeWord (0x6#4 ++ x ++ nn) = .ldVxNn x nn ∧
    ∀ s, ∃ t, exec (.ldVxNn x nn) s = .next t ∧ WritesOnlyV s t x nn.toNat) ∧
  (∀ x y : Nibble, decodeWord (0x8#4 ++ x ++ y ++ 0x0#4) = .ldVxVy x y ∧
    ∀ s, ∃ t, exec (.ldVxVy x y) s = .next t ∧ WritesOnlyV s t x (readV s y).toNat)

/-- 43_load_alu.md R174: 7XNN, no carry flag. -/
def Obligations.AddImmediateSetsNoFlag : Prop :=
  ∀ (x : Nibble) (nn : Byte), decodeWord (0x7#4 ++ x ++ nn) = .addVxNn x nn ∧
    ∀ s, ∃ t, exec (.addVxNn x nn) s = .next t ∧ WritesOnlyV s t x (((readV s x).toNat + nn.toNat) % 256)

/-- 43_load_alu.md R176, R177, R178: 8XY1, 8XY2, 8XY3 clear `VF`. -/
def Obligations.LogicClearsTheFlag : Prop :=
  ∀ x y : Nibble,
    decodeWord (0x8#4 ++ x ++ y ++ 0x1#4) = .orVxVy x y ∧
    decodeWord (0x8#4 ++ x ++ y ++ 0x2#4) = .andVxVy x y ∧
    decodeWord (0x8#4 ++ x ++ y ++ 0x3#4) = .xorVxVy x y ∧
    ∀ s,
      (∃ t, exec (.orVxVy x y) s = .next t ∧ WritesResultThenFlag s t x ((readV s x).toNat ||| (readV s y).toNat) 0) ∧
      (∃ t, exec (.andVxVy x y) s = .next t ∧ WritesResultThenFlag s t x ((readV s x).toNat &&& (readV s y).toNat) 0) ∧
      (∃ t, exec (.xorVxVy x y) s = .next t ∧ WritesResultThenFlag s t x ((readV s x).toNat ^^^ (readV s y).toNat) 0)

/-- 43_load_alu.md R179: 8XY4. -/
def Obligations.AddSetsCarry : Prop :=
  ∀ x y : Nibble, decodeWord (0x8#4 ++ x ++ y ++ 0x4#4) = .addVxVy x y ∧
    ∀ s, ∃ t, exec (.addVxVy x y) s = .next t ∧
      WritesResultThenFlag s t x (((readV s x).toNat + (readV s y).toNat) % 256)
        (if (readV s x).toNat + (readV s y).toNat > 255 then 1 else 0)

/-- 43_load_alu.md R180, R182: 8XY5 and 8XY7. -/
def Obligations.SubtractSetsNotBorrow : Prop :=
  ∀ x y : Nibble,
    decodeWord (0x8#4 ++ x ++ y ++ 0x5#4) = .subVxVy x y ∧
    decodeWord (0x8#4 ++ x ++ y ++ 0x7#4) = .subnVxVy x y ∧
    ∀ s,
      (∃ t, exec (.subVxVy x y) s = .next t ∧
        WritesResultThenFlag s t x (((readV s x).toNat + 256 - (readV s y).toNat) % 256)
          (if (readV s x).toNat ≥ (readV s y).toNat then 1 else 0)) ∧
      (∃ t, exec (.subnVxVy x y) s = .next t ∧
        WritesResultThenFlag s t x (((readV s y).toNat + 256 - (readV s x).toNat) % 256)
          (if (readV s y).toNat ≥ (readV s x).toNat then 1 else 0))

/-- 43_load_alu.md R181, R183: 8XY6 and 8XYE shift `V[Y]`. -/
def Obligations.ShiftReadsTheSecondRegister : Prop :=
  ∀ x y : Nibble,
    decodeWord (0x8#4 ++ x ++ y ++ 0x6#4) = .shrVxVy x y ∧
    decodeWord (0x8#4 ++ x ++ y ++ 0xE#4) = .shlVxVy x y ∧
    ∀ s,
      (∃ t, exec (.shrVxVy x y) s = .next t ∧ WritesResultThenFlag s t x ((readV s y).toNat / 2) ((readV s y).toNat % 2)) ∧
      (∃ t, exec (.shlVxVy x y) s = .next t ∧
        WritesResultThenFlag s t x ((readV s y).toNat * 2 % 256) ((readV s y).toNat / 128))

/-- 43_load_alu.md R184: CXNN takes a byte from `rand8`, whatever it is, also when `NN = 0` (a free value: D8, log 4). -/
def Obligations.RandomByteIsMasked : Prop :=
  ∀ (x : Nibble) (nn : Byte), decodeWord (0xC#4 ++ x ++ nn) = .rndVxNn x nn ∧
    ∀ s, ∃ t, exec (.rndVxNn x nn) s = .next t ∧ readV t x = s.rand8 &&& nn ∧
      t.randTaken = s.randTaken + 1 ∧ t.rand8 = Config.rand8 t.randTaken ∧
      RegsSame s t [x] ∧ t = { s with v := t.v, rand8 := t.rand8, randTaken := t.randTaken } ∧ RamSame s t

/-! ## Display -/

/-- 41_display.md R141: 00E0. -/
def Obligations.ClearScreenTurnsEveryPixelOff : Prop :=
  decodeWord 0x00E0 = .cls ∧
  ∀ s, ∃ t, exec .cls s = .next t ∧ (∀ x y, x < 64 → y < 32 → pixel t x y = false) ∧ t = { s with disp := t.disp } ∧
    (∀ r, readV t r = readV s r) ∧ RamSame s t

/-- 41_display.md R142 in closed form: DXYN toggles the pixels under the sprite's bits inside the display and no other; `VF` is 1
exactly when a lit pixel was turned off (the coordinates are read before `VF` is written: D26). -/
def Obligations.DrawTogglesClipsAndDetectsCollision : Prop :=
  ∀ x y n : Nibble, decodeWord (0xD#4 ++ x ++ y ++ n) = .drwVxVyN x y n ∧
    ∀ s, ∃ t, exec (.drwVxVyN x y n) s = .next t ∧
      (∀ px py, px < 64 → py < 32 → pixel t px py = (pixel s px py ^^ spriteOn s x y n px py)) ∧
      ((∃ px py, px < 64 ∧ py < 32 ∧ spriteOn s x y n px py = true ∧ pixel s px py = true) → readV t 15 = 1) ∧
      ((∀ px py, px < 64 → py < 32 → spriteOn s x y n px py = true → pixel s px py = false) → readV t 15 = 0) ∧
      RegsSame s t [15] ∧ t = { s with v := t.v, disp := t.disp } ∧ RamSame s t

/-- 41_display.md R142, corner case 8: a second draw of the same sprite at the same place restores the display, and its `VF` is 1
exactly when a sprite bit lay over a pixel that was off before the first draw. The coordinates stay the same when neither is `VF`. -/
def Obligations.DrawingTwiceRestoresTheDisplay : Prop :=
  ∀ (x y n : Nibble) (s : State), x ≠ 15 → y ≠ 15 →
    ∃ t u, exec (.drwVxVyN x y n) s = .next t ∧ exec (.drwVxVyN x y n) t = .next u ∧ u.disp = s.disp ∧
      (readV u 15 = 1 ↔ ∃ px py, px < 64 ∧ py < 32 ∧ spriteOn s x y n px py = true ∧ pixel s px py = false)

/-! ## Control flow -/

/-- 42_control_flow.md R152, R158: 1NNN and BNNN. -/
def Obligations.JumpTargets : Prop :=
  ∀ nnn : Addr12,
    decodeWord (0x1#4 ++ nnn) = .jpNnn nnn ∧ decodeWord (0xB#4 ++ nnn) = .jpV0Nnn nnn ∧
    ∀ s,
      (∃ t, exec (.jpNnn nnn) s = .next t ∧ t.pc.toNat = nnn.toNat ∧ t = { s with pc := t.pc } ∧ RamSame s t) ∧
      (∃ t, exec (.jpV0Nnn nnn) s = .next t ∧ t.pc.toNat = ((readV s 0).toNat + nnn.toNat) % 4096 ∧
        t = { s with pc := t.pc } ∧ RamSame s t)

/-- 42_control_flow.md R153: 2NNN below the full stack pushes the advanced `pc` (the full stack is the spec's decision D1:
`StackFaultsLatchAndEndTheBatch`). -/
def Obligations.CallPushesTheReturnAddress : Prop :=
  ∀ nnn : Addr12, decodeWord (0x2#4 ++ nnn) = .callNnn nnn ∧
    ∀ s : State, s.sp.val < 12 → ∃ t, exec (.callNnn nnn) s = .next t ∧
      (∀ k < 12, stackEntry t k = if k = s.sp.val then s.pc else stackEntry s k) ∧
      t.sp.val = s.sp.val + 1 ∧ t.pc.toNat = nnn.toNat ∧ t = { s with stack := t.stack, sp := t.sp, pc := t.pc } ∧ RamSame s t

/-- 42_control_flow.md R151: 00EE above the empty stack pops; the popped entry stays (the empty stack is D1). -/
def Obligations.ReturnPopsTheStack : Prop :=
  decodeWord 0x00EE = .ret ∧
  ∀ s : State, 0 < s.sp.val → ∃ t, exec .ret s = .next t ∧
    t.sp.val = s.sp.val - 1 ∧ t.pc = stackEntry s (s.sp.val - 1) ∧ t = { s with sp := t.sp, pc := t.pc } ∧ RamSame s t

/-- 60_exceptions.md R243: a CALL at `sp = 12` and a RET at `sp = 0` latch their fault, log it, end the batch and change nothing
else; `pc` stays advanced (the spec's decisions D1, D11, D25; that the model goes on is its reading, log 14). -/
def Obligations.StackFaultsLatchAndEndTheBatch : Prop :=
  ∀ s : State,
    (s.sp.val = 12 → ∀ nnn, exec (.callNnn nnn) s = .next
      { s with
        fault := .stackOverflow, batchLeft := 0,
        debugOut := if s.params.debugEn then s.debugOut ++ [.stackOverflow (s.pc - 2) s.inst.opcode] else s.debugOut }) ∧
    (s.sp.val = 0 → exec .ret s = .next
      { s with
        fault := .stackUnderflow, batchLeft := 0,
        debugOut := if s.params.debugEn then s.debugOut ++ [.stackUnderflow (s.pc - 2) s.inst.opcode] else s.debugOut })

/-- A RET returns to the instruction after the CALL that pushed last, whatever ran in between and left the stack as the CALL
did (40_instruction_cycle.md R121, 42_control_flow.md R151, R153). -/
def Obligations.ReturnComesBackAfterTheCall : Prop :=
  ∀ (nnn : Addr12) (s : State), s.sp.val < 12 → ∃ t, exec (.callNnn nnn) s = .next t ∧
    ∀ t' : State, t'.stack = t.stack → t'.sp = t.sp →
      ∃ u, exec .ret t' = .next u ∧ u.pc = s.pc ∧ u.sp = s.sp

/-- 42_control_flow.md R154, R155: 3XNN and 4XNN. -/
def Obligations.SkipsOnImmediate : Prop :=
  ∀ (x : Nibble) (nn : Byte),
    decodeWord (0x3#4 ++ x ++ nn) = .seVxNn x nn ∧ decodeWord (0x4#4 ++ x ++ nn) = .sneVxNn x nn ∧
    ∀ s,
      (∃ t, exec (.seVxNn x nn) s = .next t ∧ SkipsWhen (decide ((readV s x).toNat = nn.toNat)) s t) ∧
      (∃ t, exec (.sneVxNn x nn) s = .next t ∧ SkipsWhen (decide ((readV s x).toNat ≠ nn.toNat)) s t)

/-- 42_control_flow.md R156: 5XY0, and 5XYN with another low nibble is unknown. -/
def Obligations.SkipWhenRegistersAreEqual : Prop :=
  ∀ x y : Nibble,
    decodeWord (0x5#4 ++ x ++ y ++ 0x0#4) = .seVxVy x y ∧
    (∀ n : Nibble, n ≠ 0 → decodeWord (0x5#4 ++ x ++ y ++ n) = .unknown (0x5#4 ++ x ++ y ++ n)) ∧
    ∀ s, ∃ t, exec (.seVxVy x y) s = .next t ∧ SkipsWhen (decide ((readV s x).toNat = (readV s y).toNat)) s t

/-- 42_control_flow.md R157: 9XY0, and 9XYN with another low nibble is unknown (the spec's decision D4). -/
def Obligations.SkipWhenRegistersDiffer : Prop :=
  ∀ x y : Nibble,
    decodeWord (0x9#4 ++ x ++ y ++ 0x0#4) = .sneVxVy x y ∧
    (∀ n : Nibble, n ≠ 0 → decodeWord (0x9#4 ++ x ++ y ++ n) = .unknown (0x9#4 ++ x ++ y ++ n)) ∧
    ∀ s, ∃ t, exec (.sneVxVy x y) s = .next t ∧ SkipsWhen (decide ((readV s x).toNat ≠ (readV s y).toNat)) s t

/-- 40_instruction_cycle.md R124: an unknown word is reported and does nothing else (the spec's decision D24). -/
def Obligations.UnknownOpcodeDoesNothingElse : Prop :=
  ∀ (op : Word) (s : State), exec (.unknown op) s = .next
    { s with debugOut := if s.params.debugEn then s.debugOut ++ [.unknownOpcode (s.pc - 2) op] else s.debugOut }

/-! ## Index register and memory -/

/-- 44_index_memory.md R201, R202, R203: ANNN, FX1E, FX29. -/
def Obligations.IndexRegisterLoads : Prop :=
  (∀ nnn : Addr12, decodeWord (0xA#4 ++ nnn) = .ldINnn nnn ∧
    ∀ s, ∃ t, exec (.ldINnn nnn) s = .next t ∧ t.i.toNat = nnn.toNat ∧ t = { s with i := t.i } ∧ RamSame s t) ∧
  (∀ x : Nibble, decodeWord (0xF#4 ++ x ++ 0x1E#8) = .addIVx x ∧ decodeWord (0xF#4 ++ x ++ 0x29#8) = .ldFVx x ∧
    ∀ s,
      (∃ t, exec (.addIVx x) s = .next t ∧ t.i.toNat = (s.i.toNat + (readV s x).toNat) % 65536 ∧ t = { s with i := t.i } ∧
        RamSame s t) ∧
      (∃ t, exec (.ldFVx x) s = .next t ∧ t.i.toNat = (readV s x).toNat % 16 * 5 ∧ t = { s with i := t.i } ∧ RamSame s t))

/-- 44_index_memory.md R204: FX33 stores the three digits from `I` on, each address modulo 4096. -/
def Obligations.BcdStoresThreeDigits : Prop :=
  ∀ x : Nibble, decodeWord (0xF#4 ++ x ++ 0x33#8) = .ldBVx x ∧
    ∀ s : State, Memory.wf s.params.font s.mem = true → ∃ t, exec (.ldBVx x) s = .next t ∧
      (memRead t (dataAddress s)).toNat = (readV s x).toNat / 100 ∧
      (memRead t (dataAddress s + 1)).toNat = (readV s x).toNat / 10 % 10 ∧
      (memRead t (dataAddress s + 2)).toNat = (readV s x).toNat % 10 ∧
      RamSameOutside s t (dataAddress s) 3 ∧ t = { s with mem := t.mem }

/-- 44_index_memory.md R205: FX55 stores `V[0]` to `V[X]` from `I` on and adds `X + 1` to `I`, modulo 65536 (D16). -/
def Obligations.StoreRegistersAdvancesIndex : Prop :=
  ∀ x : Nibble, decodeWord (0xF#4 ++ x ++ 0x55#8) = .ldIndVx x ∧
    ∀ s : State, Memory.wf s.params.font s.mem = true → ∃ t, exec (.ldIndVx x) s = .next t ∧
      (∀ y, y ≤ x → memRead t (dataAddress s + y.toNat) = readV s y) ∧
      t.i.toNat = (s.i.toNat + x.toNat + 1) % 65536 ∧
      RamSameOutside s t (dataAddress s) (x.toNat + 1) ∧ t = { s with mem := t.mem, i := t.i }

/-- 44_index_memory.md R206: FX65 loads `V[0]` to `V[X]` from `I` on and adds `X + 1` to `I`, modulo 65536 (D16). -/
def Obligations.LoadRegistersAdvancesIndex : Prop :=
  ∀ x : Nibble, decodeWord (0xF#4 ++ x ++ 0x65#8) = .ldVxInd x ∧
    ∀ s : State, ∃ t, exec (.ldVxInd x) s = .next t ∧
      (∀ y, y ≤ x → readV t y = memRead s (dataAddress s + y.toNat)) ∧
      (∀ y, x < y → readV t y = readV s y) ∧
      t.i.toNat = (s.i.toNat + x.toNat + 1) % 65536 ∧ t = { s with v := t.v, i := t.i } ∧ RamSame s t

/-- What FX55 stored, FX65 from the same `I` loads back into the same registers, whatever they held meanwhile
(44_index_memory.md R205, R206). -/
def Obligations.LoadUndoesStore : Prop :=
  ∀ (x : Nibble) (s : State), Memory.wf s.params.font s.mem = true → ∃ t, exec (.ldIndVx x) s = .next t ∧
    ∀ v : Vector Byte 16, ∃ u, exec (.ldVxInd x) { t with v := v, i := s.i } = .next u ∧
      (∀ y, y ≤ x → readV u y = readV s y) ∧ u.i = t.i

/-! ## Keypad and timer instructions -/

/-- 45_keypad_timers.md R220, R221: EX9E and EXA1 test the key of the low nibble of `V[X]`. -/
def Obligations.SkipsOnKey : Prop :=
  ∀ x : Nibble, decodeWord (0xE#4 ++ x ++ 0x9E#8) = .skpVx x ∧ decodeWord (0xE#4 ++ x ++ 0xA1#8) = .sknpVx x ∧
    ∀ (s : State) (k : Nibble), k.toNat = (readV s x).toNat % 16 →
      (∃ t, exec (.skpVx x) s = .next t ∧ SkipsWhen s.keys[k.toNat] s t) ∧
      (∃ t, exec (.sknpVx x) s = .next t ∧ SkipsWhen (!s.keys[k.toNat]) s t)

/-- 45_keypad_timers.md R222, R224, R225: FX07, FX15, FX18. -/
def Obligations.TimerTransfers : Prop :=
  ∀ x : Nibble,
    decodeWord (0xF#4 ++ x ++ 0x07#8) = .ldVxDt x ∧ decodeWord (0xF#4 ++ x ++ 0x15#8) = .ldDtVx x ∧
    decodeWord (0xF#4 ++ x ++ 0x18#8) = .ldStVx x ∧
    ∀ s,
      (∃ t, exec (.ldVxDt x) s = .next t ∧ WritesOnlyV s t x s.dt.toNat) ∧
      (∃ t, exec (.ldDtVx x) s = .next t ∧ t.dt = readV s x ∧ t = { s with dt := t.dt } ∧ RamSame s t) ∧
      (∃ t, exec (.ldStVx x) s = .next t ∧ t.st = readV s x ∧ t = { s with st := t.st } ∧ RamSame s t)

/-- 45_keypad_timers.md R226, R223: the four transitions of FX0A (the least held key is the spec's decision D7). -/
def Obligations.KeyWaitTransitions : Prop :=
  ∀ x : Nibble, decodeWord (0xF#4 ++ x ++ 0x0A#8) = .ldVxK x ∧
    ∀ s : State,
      (s.wk = .none → (∀ j, keyHeld s j = false) → exec (.ldVxK x) s = .next { s with pc := s.pc - 2 }) ∧
      (∀ k0, s.wk = .none → keyHeld s k0 = true → (∀ j, j < k0 → keyHeld s j = false) →
        exec (.ldVxK x) s = .next { s with wk := .seen k0, pc := s.pc - 2 }) ∧
      (∀ k, s.wk = .seen k → keyHeld s k = true → exec (.ldVxK x) s = .next { s with pc := s.pc - 2 }) ∧
      (∀ k, s.wk = .seen k → keyHeld s k = false → ∃ t, exec (.ldVxK x) s = .next t ∧
        (readV t x).toNat = k.toNat ∧ RegsSame s t [x] ∧ t = { s with v := t.v, wk := .none } ∧ RamSame s t)

/-! ## Reset -/

/-- The state after reset: the values of 10_state.md R42 with an empty ROM (log 5) and the default font (log 6). -/
def Obligations.ResetHasTheResetValues : Prop :=
  Booted State.reset State.reset ∧ State.reset.params.rom = [] ∧ State.reset.params.font.length = 80

/-- 70_reset_and_hazards.md R290, R291: an asserted `reset`, and a frame that finds `run = Restart`, run the same boot sequence,
which leaves the values of 10_state.md R42 (those of `tone`, `fault`, `batch_left`, `pend` are the spec's decisions D11, D14, D15).
`reset` may be asserted before any step from one frame tick to the next (10_state.md R40): the number of steps to its assertion, the
model's countdown, goes down by one in every step (log 2). -/
def Obligations.ResetAndRestartBoot : Prop :=
  (∀ s : State, BootNext s → s.params.rom.length ≤ 3584 → ∃ t, step s = .next t ∧ Booted s t) ∧
  (∀ s t : State, step s = .next t → ¬ BootNext s → s.phase ≠ .stopped → s.phase ≠ .pad → t.resetIn = resetAfter 1 s)

/-- 70_reset_and_hazards.md R293, 60_exceptions.md R241: a ROM image longer than 3584 bytes is refused, and the refusal records its
length (D20, log 15). -/
def Obligations.OversizeRomIsRefused : Prop :=
  ∀ s : State, BootNext s → 3584 < s.params.rom.length → step s = .refused (.romTooLarge s.params.rom.length)

/-! ## The frame -/

/-- 60_exceptions.md R260, R261, R253: the drain applies every event of `pend` in order: a key holds what the last event about it
says, `run` follows the table of R253 (its open cells are the spec's decision D14), and `pend` is empty. The countdown to `reset`, the
records and the phase are the model's: logs 2, 9, 11. -/
def Obligations.DrainAppliesEveryEvent : Prop :=
  ∀ s : State, s.phase = .input → s.resetIn ≠ some 0 → ∃ t, step s = .next t ∧
    t.pend = [] ∧ t.run = s.pend.foldl runAfter s.run ∧
    (∀ k before after, s.pend = before ++ Event.keyDown k :: after → NoKeyEvent after k → keyHeld t k = true) ∧
    (∀ k before after, s.pend = before ++ Event.keyUp k :: after → NoKeyEvent after k → keyHeld t k = false) ∧
    (∀ k, NoKeyEvent s.pend k → keyHeld t k = keyHeld s k) ∧
    t = { s with keys := t.keys, run := t.run, pend := [], resetIn := resetAfter 1 s, debugOut := [], phase := .execute }

/-- `Quit` wins over everything else in the same drain (60_exceptions.md R253; the spec's decision D14). -/
def Obligations.QuitWinsInADrain : Prop :=
  ∀ s t : State, s.phase = .input → s.resetIn ≠ some 0 → step s = .next t →
    (t.run = .quit ↔ s.run = .quit ∨ Event.quit ∈ s.pend)

/-- The case on `run` after the drain (60_exceptions.md R250, R252; `Quit` is the spec's decision D28, the faulted core D11). The
phases, the records cleared from `debug_out` and the countdown to `reset` are the model's: logs 11, 9, 2. -/
def Obligations.FrameSelectsByRunState : Prop :=
  ∀ s : State, s.phase = .execute → s.resetIn ≠ some 0 →
    (s.run = .quit → step s = .next { s with phase := .stopped, resetIn := resetAfter 1 s, debugOut := [] }) ∧
    (s.run = .paused → step s = .next { s with phase := .tick, resetIn := resetAfter 1 s, debugOut := [] }) ∧
    (s.run = .running → s.fault ≠ .noFault → step s = .next { s with phase := .tick, resetIn := resetAfter 1 s, debugOut := [] }) ∧
    (s.run = .running → s.fault = .noFault → step s = .next
      { s with phase := .batch, batchLeft := (s.params.instPerSec + 59) / 60, resetIn := resetAfter 1 s, debugOut := [] })

/-- A running frame executes exactly `IPF` instruction cycles and then comes to the timer tick, unless a fault ends its batch early
(60_exceptions.md R251, R243) or `reset` cuts it (10_state.md R40). When `reset` is asserted is the model's countdown, log 2, and the
steps and the phase of the tick are the model's, log 11. -/
def Obligations.BatchRunsExactlyIpfCycles : Prop :=
  ∀ s : State, s.phase = .execute → s.resetIn ≠ some 0 → s.run = .running → s.fault = .noFault →
    ∃ (k : Nat) (t : State), k ≤ (s.params.instPerSec + 59) / 60 ∧
      (∀ j < k, ∃ r : State, Host.Core.run Sys2Proof.core (1 + j) s = .next r ∧ CycleNext r) ∧
      Host.Core.run Sys2Proof.core (1 + k) s = .next t ∧
      ((s.resetIn = some (1 + k) ∧ BootNext t) ∨
       (t.batchLeft = 0 ∧ (t.fault = .noFault → k = (s.params.instPerSec + 59) / 60) ∧
        ∃ u : State, step t = .next u ∧ u.phase = .tick ∧ u.pc = t.pc ∧ u.fault = t.fault))

/-- `keys`, `run` and `tone` are constant during a batch, the timers are not ticked and nothing is presented in it
(20_memory.md R68, 10_state.md R29). That `pend` is constant too is the model's choice, log 1: 10_state.md R37 lets the environment
append to it at any time. -/
def Obligations.InputIsConstantInABatch : Prop :=
  ∀ s t : State, s.phase = .batch → s.resetIn ≠ some 0 → step s = .next t →
    t.keys = s.keys ∧ t.run = s.run ∧ t.pend = s.pend ∧ t.tone = s.tone ∧ t.displayOut = s.displayOut ∧
    ((∀ x, ¬ InstrAt s (.ldDtVx x)) → t.dt = s.dt) ∧ ((∀ x, ¬ InstrAt s (.ldStVx x)) → t.st = s.st)

/-- The timer tick (60_exceptions.md R254). The cleared records, the phase that follows and the countdown to `reset` are the
model's: logs 9, 11, 2. -/
def Obligations.TimerTickCountsDown : Prop :=
  ∀ s : State, s.phase = .tick → s.resetIn ≠ some 0 → ∃ t, step s = .next t ∧
    t.dt.toNat = (if s.dt.toNat > 0 then s.dt.toNat - 1 else 0) ∧
    t.st.toNat = (if s.st.toNat > 0 then s.st.toNat - 1 else 0) ∧
    t.tone = decide (s.st.toNat > 0) ∧
    t = { s with dt := t.dt, st := t.st, tone := t.tone, resetIn := resetAfter 1 s, debugOut := [], phase := .present }

/-- 60_exceptions.md R257, R244: in a paused and in a faulted frame no instruction runs, the timers tick and the display is
presented (the spec's decisions D17, D11). That this takes three steps and ends in phase pad, that `reset` comes no sooner than after
them, and that no record stands are the model's: logs 11, 2, 9. -/
def Obligations.TimersTickWhilePausedOrFaulted : Prop :=
  ∀ s : State, s.phase = .execute → (∀ n, s.resetIn = some n → 3 ≤ n) → (s.run = .paused ∨ (s.run = .running ∧ s.fault ≠ .noFault)) →
    ∃ t : State, Host.Core.run Sys2Proof.core 3 s = .next t ∧
      t.dt.toNat = s.dt.toNat - 1 ∧ t.st.toNat = s.st.toNat - 1 ∧ t.tone = decide (s.st ≠ 0) ∧ t.displayOut = s.disp ∧
      t = { s with
        dt := t.dt, st := t.st, tone := t.tone, displayOut := t.displayOut, resetIn := resetAfter 3 s, debugOut := [],
        phase := .pad }

/-- At step 4 the whole of `disp` is copied to `display_out`, and `disp` is not changed (60_exceptions.md R258). The cleared records,
the phase that follows and the countdown to `reset` are the model's: logs 9, 11, 2. -/
def Obligations.PresentationCopiesTheDisplay : Prop :=
  ∀ s : State, s.phase = .present → s.resetIn ≠ some 0 → ∃ t, step s = .next t ∧
    t.displayOut = s.disp ∧ t.disp = s.disp ∧
    t = { s with displayOut := t.displayOut, resetIn := resetAfter 1 s, debugOut := [], phase := .pad }

/-- 60_exceptions.md R261, R267: while the next frame is waited for, events arrive at the end of `pend` and nothing else of CORE's
state changes (which events come, and when `reset` is asserted next, is free: logs 1, 2, 12; the cleared records and the phase that
follows are the model's: logs 9, 11). -/
def Obligations.WaitingOnlyAppendsEvents : Prop :=
  ∀ s : State, s.phase = .pad → s.resetIn ≠ some 0 → ∃ t evs, step s = .next t ∧
    t.pend = s.pend ++ evs ∧
    t = { s with pend := t.pend, resetIn := t.resetIn, frames := s.frames + 1, debugOut := [], phase := .input }

/-- 60_exceptions.md R252: after `Stop()` nothing changes any more (D28; that `reset` is ignored too is the model's reading, log 3). -/
def Obligations.StoppedForGood : Prop :=
  ∀ (k : Nat) (s : State), s.phase = .stopped → Host.Core.run Sys2Proof.core k s = .next s

/-! ## Invariants and whole-machine rules -/

/-- The state after reset meets the invariants. -/
def Obligations.ResetMeetsTheInvariants : Prop := Inv State.reset ∧ WaitPinned State.reset

/-- Every step keeps the invariant. -/
def Obligations.StepKeepsTheInvariant : Prop := ∀ s t : State, Inv s → step s = .next t → Inv t

/-- 45_keypad_timers.md R226: while a key is recorded no instruction other than an FX0A can execute. -/
def Obligations.StepKeepsTheKeyWaitAtItsInstruction : Prop := ∀ s t : State, WaitPinned s → step s = .next t → WaitPinned t

/-- 10_state.md R43 (f), R30: `DT` and `ST` never increase except by FX15 and FX18. -/
def Obligations.TimersIncreaseOnlyByTheirLoads : Prop :=
  ∀ s t : State, step s = .next t →
    (s.dt < t.dt → CycleNext s ∧ ∃ x, InstrAt s (.ldDtVx x)) ∧ (s.st < t.st → CycleNext s ∧ ∃ x, InstrAt s (.ldStVx x))

/-- 60_exceptions.md R264: the sequence of states is the same with `DEBUG_EN` true and false, from every start state and for every
input sequence (the inputs are free values). -/
def Obligations.TracerDoesNotInterfere : Prop :=
  ∀ (s s' : State), untraced s = untraced s' → ∀ (k : Nat) (t : State), Host.Core.run Sys2Proof.core k s = .next t →
    ∃ t' : State, Host.Core.run Sys2Proof.core k s' = .next t' ∧ untraced t = untraced t'

/-- 90_conflicts.md C2, 10_state.md R24: bits 15 to 12 of `pc` and of the return addresses never decide anything: runs from states
that differ only there differ only there. -/
def Obligations.TopPcBitsAreUnobservable : Prop :=
  ∀ (s s' : State), SameUpToTopBits s s' → ∀ (k : Nat) (t : State), Host.Core.run Sys2Proof.core k s = .next t →
    ∃ t' : State, Host.Core.run Sys2Proof.core k s' = .next t' ∧ SameUpToTopBits t t'

/-- 00_scope.md R6, 10_state.md R40: the parameters, the ROM image among them, do not change in a run. -/
def Obligations.ParametersAreConstant : Prop := ∀ s t : State, step s = .next t → t.params = s.params
end

