-- ==== Sys2Proof/Laws/Decode.lean ====
section
/-! SUPPORT. The fields of a word written from its format (30_encoding.md R91, R92), the mask of a format, and the two bytes
of a word. -/

namespace Sys2Proof

theorem extract_append_hi {n m : Nat} (a : BitVec n) (b : BitVec m) (s l : Nat) (h : m ≤ s) :
    (a ++ b).extractLsb' s l = a.extractLsb' (s - m) l := by
  ext i hi
  simp [BitVec.getElem_extractLsb', BitVec.getLsbD_append]
  have : ¬ s + i < m := by omega
  have e : s + i - m = s - m + i := by omega
  simp [this, e]

theorem extract_append_lo {n m : Nat} (a : BitVec n) (b : BitVec m) (s l : Nat) (h : s + l ≤ m) :
    (a ++ b).extractLsb' s l = b.extractLsb' s l := by
  ext i hi
  simp [BitVec.getElem_extractLsb', BitVec.getLsbD_append]
  intro; omega

theorem extract_all {n : Nat} (a : BitVec n) : a.extractLsb' 0 n = a := by simp

@[simp] theorem fieldMajor_formatNnn (m : Nibble) (nnn : Addr12) : fieldMajor (formatNnn m nnn) = m :=
  (extract_append_hi m nnn 12 4 (by omega)).trans (extract_all m)

@[simp] theorem fieldNnn_formatNnn (m : Nibble) (nnn : Addr12) : fieldNnn (formatNnn m nnn) = nnn :=
  (extract_append_lo m nnn 0 12 (by omega)).trans (extract_all nnn)

@[simp] theorem fieldMajor_formatXnn (m x : Nibble) (nn : Byte) : fieldMajor (formatXnn m x nn) = m :=
  (extract_append_hi (m ++ x) nn 12 4 (by omega)).trans ((extract_append_hi m x 4 4 (by omega)).trans (extract_all m))

@[simp] theorem fieldX_formatXnn (m x : Nibble) (nn : Byte) : fieldX (formatXnn m x nn) = x :=
  (extract_append_hi (m ++ x) nn 8 4 (by omega)).trans ((extract_append_lo m x 0 4 (by omega)).trans (extract_all x))

@[simp] theorem fieldNn_formatXnn (m x : Nibble) (nn : Byte) : fieldNn (formatXnn m x nn) = nn :=
  (extract_append_lo (m ++ x) nn 0 8 (by omega)).trans (extract_all nn)

theorem formatXyn_eq (m x y n : Nibble) : formatXyn m x y n = formatXnn m x (y ++ n) := by
  unfold formatXyn formatXnn
  exact (BitVec.append_assoc' (x₁ := m ++ x) (x₂ := y) (x₃ := n)).symm

theorem fieldY_eq (op : Word) : fieldY op = (fieldNn op).extractLsb' 4 4 := by
  unfold fieldY fieldNn; ext i hi; simp

theorem fieldN_eq (op : Word) : fieldN op = (fieldNn op).extractLsb' 0 4 := by
  unfold fieldN fieldNn; ext i hi; simp

@[simp] theorem fieldMajor_formatXyn (m x y n : Nibble) : fieldMajor (formatXyn m x y n) = m := by
  rw [formatXyn_eq, fieldMajor_formatXnn]

@[simp] theorem fieldX_formatXyn (m x y n : Nibble) : fieldX (formatXyn m x y n) = x := by
  rw [formatXyn_eq, fieldX_formatXnn]

@[simp] theorem fieldY_formatXyn (m x y n : Nibble) : fieldY (formatXyn m x y n) = y := by
  rw [formatXyn_eq, fieldY_eq, fieldNn_formatXnn]
  exact (extract_append_hi y n 4 4 (by omega)).trans (extract_all y)

@[simp] theorem fieldN_formatXyn (m x y n : Nibble) : fieldN (formatXyn m x y n) = n := by
  rw [formatXyn_eq, fieldN_eq, fieldNn_formatXnn]
  exact (extract_append_lo y n 0 4 (by omega)).trans (extract_all n)

/-- A word is its major opcode and its field `NNN`. -/
theorem formatNnn_fields (op : Word) : formatNnn (fieldMajor op) (fieldNnn op) = op :=
  (BitVec.extractLsb'_append_extractLsb'_eq_extractLsb' (by omega)).trans (extract_all op)

/-- A word is its major opcode and its fields `X` and `NN`. -/
theorem formatXnn_fields (op : Word) : formatXnn (fieldMajor op) (fieldX op) (fieldNn op) = op := by
  unfold formatXnn fieldMajor fieldX fieldNn
  rw [BitVec.extractLsb'_append_extractLsb'_eq_extractLsb' (by omega)]
  exact (BitVec.extractLsb'_append_extractLsb'_eq_extractLsb' (by omega)).trans (extract_all op)

/-- A word is its major opcode and its fields `X`, `Y` and `N`. -/
theorem formatXyn_fields (op : Word) : formatXyn (fieldMajor op) (fieldX op) (fieldY op) (fieldN op) = op := by
  unfold formatXyn fieldMajor fieldX fieldY fieldN
  rw [BitVec.extractLsb'_append_extractLsb'_eq_extractLsb' (by omega),
    BitVec.extractLsb'_append_extractLsb'_eq_extractLsb' (by omega)]
  exact (BitVec.extractLsb'_append_extractLsb'_eq_extractLsb' (by omega)).trans (extract_all op)

theorem and_append {n m : Nat} (a c : BitVec n) (b d : BitVec m) : (a ++ b) &&& (c ++ d) = (a &&& c) ++ (b &&& d) := by
  ext i hi
  simp only [BitVec.getElem_and, BitVec.getElem_append]
  split <;> rfl

/-- A mask in a format, applied field by field. -/
theorem formatXnn_and (m x m' x' : Nibble) (nn nn' : Byte) :
    formatXnn m x nn &&& formatXnn m' x' nn' = formatXnn (m &&& m') (x &&& x') (nn &&& nn') :=
  (and_append (m ++ x) (m' ++ x') nn nn').trans (congrArg (· ++ (nn &&& nn')) (and_append m m' x x'))

theorem formatXyn_and (m x y n m' x' y' n' : Nibble) :
    formatXyn m x y n &&& formatXyn m' x' y' n' = formatXyn (m &&& m') (x &&& x') (y &&& y') (n &&& n') := by
  simp only [formatXyn_eq, formatXnn_and]
  exact congrArg (formatXnn (m &&& m') (x &&& x')) (and_append y y' n n')

theorem formatNnn_and (m m' : Nibble) (nnn nnn' : Addr12) :
    formatNnn m nnn &&& formatNnn m' nnn' = formatNnn (m &&& m') (nnn &&& nnn') := and_append m m' nnn nnn'

/-- The two bytes of a word make the word (20_memory.md R63). -/
@[simp] theorem wordOfBytes_hiByte_loByte (op : Word) : wordOfBytes (hiByte op) (loByte op) = op := by
  unfold wordOfBytes hiByte loByte
  apply BitVec.eq_of_getLsbD_eq
  intro k hk
  rw [show (BitVec.extractLsb' 8 8 op ++ BitVec.extractLsb' 0 8 op : BitVec 16).getLsbD k =
    if k < 8 then (BitVec.extractLsb' 0 8 op).getLsbD k else (BitVec.extractLsb' 8 8 op).getLsbD (k - 8) from
    BitVec.getLsbD_append]
  split
  · rename_i h
    simp [h]
  · have h1 : k - 8 < 8 := by omega
    have h2 : 8 + (k - 8) = k := by omega
    simp [h1, h2]

@[simp] theorem hiByte_wordOfBytes (hi lo : Byte) : hiByte (wordOfBytes hi lo) = hi :=
  (extract_append_hi hi lo 8 8 (by omega)).trans (extract_all hi)

@[simp] theorem loByte_wordOfBytes (hi lo : Byte) : loByte (wordOfBytes hi lo) = lo :=
  (extract_append_lo hi lo 0 8 (by omega)).trans (extract_all lo)

/-- Two bytes decode to the instruction of their word, and nothing is left of them. -/
theorem decode_two_bytes (hi lo : Byte) (i : Instr) :
    decode [hi, lo] = .ok (i, []) ↔ decodeWord (wordOfBytes hi lo) = i := by simp [decode]

end Sys2Proof
end

