-- ==== Sys2Proof/Laws/State.lean ====
section
/-! SUPPORT. One lemma per field of State per update of Machine/Ops.lean, so that no proof unfolds a record update. -/

namespace Sys2Proof.Machine

section memWriteFields
variable (s : State) (a : Nat) (b : Byte)
@[simp] theorem memWrite_mem : (memWrite s a b).mem = Memory.write s.params.font s.mem (a % Config.memSize) b := rfl
@[simp] theorem memWrite_v : (memWrite s a b).v = s.v := rfl
@[simp] theorem memWrite_i : (memWrite s a b).i = s.i := rfl
@[simp] theorem memWrite_pc : (memWrite s a b).pc = s.pc := rfl
@[simp] theorem memWrite_stack : (memWrite s a b).stack = s.stack := rfl
@[simp] theorem memWrite_sp : (memWrite s a b).sp = s.sp := rfl
@[simp] theorem memWrite_disp : (memWrite s a b).disp = s.disp := rfl
@[simp] theorem memWrite_keys : (memWrite s a b).keys = s.keys := rfl
@[simp] theorem memWrite_dt : (memWrite s a b).dt = s.dt := rfl
@[simp] theorem memWrite_st : (memWrite s a b).st = s.st := rfl
@[simp] theorem memWrite_run : (memWrite s a b).run = s.run := rfl
@[simp] theorem memWrite_inst : (memWrite s a b).inst = s.inst := rfl
@[simp] theorem memWrite_wk : (memWrite s a b).wk = s.wk := rfl
@[simp] theorem memWrite_tone : (memWrite s a b).tone = s.tone := rfl
@[simp] theorem memWrite_fault : (memWrite s a b).fault = s.fault := rfl
@[simp] theorem memWrite_batchLeft : (memWrite s a b).batchLeft = s.batchLeft := rfl
@[simp] theorem memWrite_pend : (memWrite s a b).pend = s.pend := rfl
@[simp] theorem memWrite_resetIn : (memWrite s a b).resetIn = s.resetIn := rfl
@[simp] theorem memWrite_rand8 : (memWrite s a b).rand8 = s.rand8 := rfl
@[simp] theorem memWrite_displayOut : (memWrite s a b).displayOut = s.displayOut := rfl
@[simp] theorem memWrite_debugOut : (memWrite s a b).debugOut = s.debugOut := rfl
@[simp] theorem memWrite_params : (memWrite s a b).params = s.params := rfl
@[simp] theorem memWrite_phase : (memWrite s a b).phase = s.phase := rfl
@[simp] theorem memWrite_frames : (memWrite s a b).frames = s.frames := rfl
@[simp] theorem memWrite_randTaken : (memWrite s a b).randTaken = s.randTaken := rfl
end memWriteFields

section memWriteBytesFields
variable (s : State) (a : Nat) (bs : List Byte)
@[simp] theorem memWriteBytes_mem : (memWriteBytes s a bs).mem = Memory.writeBytes s.params.font s.mem a bs := rfl
@[simp] theorem memWriteBytes_v : (memWriteBytes s a bs).v = s.v := rfl
@[simp] theorem memWriteBytes_i : (memWriteBytes s a bs).i = s.i := rfl
@[simp] theorem memWriteBytes_pc : (memWriteBytes s a bs).pc = s.pc := rfl
@[simp] theorem memWriteBytes_stack : (memWriteBytes s a bs).stack = s.stack := rfl
@[simp] theorem memWriteBytes_sp : (memWriteBytes s a bs).sp = s.sp := rfl
@[simp] theorem memWriteBytes_disp : (memWriteBytes s a bs).disp = s.disp := rfl
@[simp] theorem memWriteBytes_keys : (memWriteBytes s a bs).keys = s.keys := rfl
@[simp] theorem memWriteBytes_dt : (memWriteBytes s a bs).dt = s.dt := rfl
@[simp] theorem memWriteBytes_st : (memWriteBytes s a bs).st = s.st := rfl
@[simp] theorem memWriteBytes_run : (memWriteBytes s a bs).run = s.run := rfl
@[simp] theorem memWriteBytes_inst : (memWriteBytes s a bs).inst = s.inst := rfl
@[simp] theorem memWriteBytes_wk : (memWriteBytes s a bs).wk = s.wk := rfl
@[simp] theorem memWriteBytes_tone : (memWriteBytes s a bs).tone = s.tone := rfl
@[simp] theorem memWriteBytes_fault : (memWriteBytes s a bs).fault = s.fault := rfl
@[simp] theorem memWriteBytes_batchLeft : (memWriteBytes s a bs).batchLeft = s.batchLeft := rfl
@[simp] theorem memWriteBytes_pend : (memWriteBytes s a bs).pend = s.pend := rfl
@[simp] theorem memWriteBytes_resetIn : (memWriteBytes s a bs).resetIn = s.resetIn := rfl
@[simp] theorem memWriteBytes_rand8 : (memWriteBytes s a bs).rand8 = s.rand8 := rfl
@[simp] theorem memWriteBytes_displayOut : (memWriteBytes s a bs).displayOut = s.displayOut := rfl
@[simp] theorem memWriteBytes_debugOut : (memWriteBytes s a bs).debugOut = s.debugOut := rfl
@[simp] theorem memWriteBytes_params : (memWriteBytes s a bs).params = s.params := rfl
@[simp] theorem memWriteBytes_phase : (memWriteBytes s a bs).phase = s.phase := rfl
@[simp] theorem memWriteBytes_frames : (memWriteBytes s a bs).frames = s.frames := rfl
@[simp] theorem memWriteBytes_randTaken : (memWriteBytes s a bs).randTaken = s.randTaken := rfl
end memWriteBytesFields

section writeVFields
variable (s : State) (x : Nibble) (b : Byte)
@[simp] theorem writeV_mem : (writeV s x b).mem = s.mem := rfl
@[simp] theorem writeV_v : (writeV s x b).v = s.v.set x.toNat b := rfl
@[simp] theorem writeV_i : (writeV s x b).i = s.i := rfl
@[simp] theorem writeV_pc : (writeV s x b).pc = s.pc := rfl
@[simp] theorem writeV_stack : (writeV s x b).stack = s.stack := rfl
@[simp] theorem writeV_sp : (writeV s x b).sp = s.sp := rfl
@[simp] theorem writeV_disp : (writeV s x b).disp = s.disp := rfl
@[simp] theorem writeV_keys : (writeV s x b).keys = s.keys := rfl
@[simp] theorem writeV_dt : (writeV s x b).dt = s.dt := rfl
@[simp] theorem writeV_st : (writeV s x b).st = s.st := rfl
@[simp] theorem writeV_run : (writeV s x b).run = s.run := rfl
@[simp] theorem writeV_inst : (writeV s x b).inst = s.inst := rfl
@[simp] theorem writeV_wk : (writeV s x b).wk = s.wk := rfl
@[simp] theorem writeV_tone : (writeV s x b).tone = s.tone := rfl
@[simp] theorem writeV_fault : (writeV s x b).fault = s.fault := rfl
@[simp] theorem writeV_batchLeft : (writeV s x b).batchLeft = s.batchLeft := rfl
@[simp] theorem writeV_pend : (writeV s x b).pend = s.pend := rfl
@[simp] theorem writeV_resetIn : (writeV s x b).resetIn = s.resetIn := rfl
@[simp] theorem writeV_rand8 : (writeV s x b).rand8 = s.rand8 := rfl
@[simp] theorem writeV_displayOut : (writeV s x b).displayOut = s.displayOut := rfl
@[simp] theorem writeV_debugOut : (writeV s x b).debugOut = s.debugOut := rfl
@[simp] theorem writeV_params : (writeV s x b).params = s.params := rfl
@[simp] theorem writeV_phase : (writeV s x b).phase = s.phase := rfl
@[simp] theorem writeV_frames : (writeV s x b).frames = s.frames := rfl
@[simp] theorem writeV_randTaken : (writeV s x b).randTaken = s.randTaken := rfl
end writeVFields

section writeIFields
variable (s : State) (a : Word)
@[simp] theorem writeI_mem : (writeI s a).mem = s.mem := rfl
@[simp] theorem writeI_v : (writeI s a).v = s.v := rfl
@[simp] theorem writeI_i : (writeI s a).i = a := rfl
@[simp] theorem writeI_pc : (writeI s a).pc = s.pc := rfl
@[simp] theorem writeI_stack : (writeI s a).stack = s.stack := rfl
@[simp] theorem writeI_sp : (writeI s a).sp = s.sp := rfl
@[simp] theorem writeI_disp : (writeI s a).disp = s.disp := rfl
@[simp] theorem writeI_keys : (writeI s a).keys = s.keys := rfl
@[simp] theorem writeI_dt : (writeI s a).dt = s.dt := rfl
@[simp] theorem writeI_st : (writeI s a).st = s.st := rfl
@[simp] theorem writeI_run : (writeI s a).run = s.run := rfl
@[simp] theorem writeI_inst : (writeI s a).inst = s.inst := rfl
@[simp] theorem writeI_wk : (writeI s a).wk = s.wk := rfl
@[simp] theorem writeI_tone : (writeI s a).tone = s.tone := rfl
@[simp] theorem writeI_fault : (writeI s a).fault = s.fault := rfl
@[simp] theorem writeI_batchLeft : (writeI s a).batchLeft = s.batchLeft := rfl
@[simp] theorem writeI_pend : (writeI s a).pend = s.pend := rfl
@[simp] theorem writeI_resetIn : (writeI s a).resetIn = s.resetIn := rfl
@[simp] theorem writeI_rand8 : (writeI s a).rand8 = s.rand8 := rfl
@[simp] theorem writeI_displayOut : (writeI s a).displayOut = s.displayOut := rfl
@[simp] theorem writeI_debugOut : (writeI s a).debugOut = s.debugOut := rfl
@[simp] theorem writeI_params : (writeI s a).params = s.params := rfl
@[simp] theorem writeI_phase : (writeI s a).phase = s.phase := rfl
@[simp] theorem writeI_frames : (writeI s a).frames = s.frames := rfl
@[simp] theorem writeI_randTaken : (writeI s a).randTaken = s.randTaken := rfl
end writeIFields

section writePcFields
variable (s : State) (a : Word)
@[simp] theorem writePc_mem : (writePc s a).mem = s.mem := rfl
@[simp] theorem writePc_v : (writePc s a).v = s.v := rfl
@[simp] theorem writePc_i : (writePc s a).i = s.i := rfl
@[simp] theorem writePc_pc : (writePc s a).pc = a := rfl
@[simp] theorem writePc_stack : (writePc s a).stack = s.stack := rfl
@[simp] theorem writePc_sp : (writePc s a).sp = s.sp := rfl
@[simp] theorem writePc_disp : (writePc s a).disp = s.disp := rfl
@[simp] theorem writePc_keys : (writePc s a).keys = s.keys := rfl
@[simp] theorem writePc_dt : (writePc s a).dt = s.dt := rfl
@[simp] theorem writePc_st : (writePc s a).st = s.st := rfl
@[simp] theorem writePc_run : (writePc s a).run = s.run := rfl
@[simp] theorem writePc_inst : (writePc s a).inst = s.inst := rfl
@[simp] theorem writePc_wk : (writePc s a).wk = s.wk := rfl
@[simp] theorem writePc_tone : (writePc s a).tone = s.tone := rfl
@[simp] theorem writePc_fault : (writePc s a).fault = s.fault := rfl
@[simp] theorem writePc_batchLeft : (writePc s a).batchLeft = s.batchLeft := rfl
@[simp] theorem writePc_pend : (writePc s a).pend = s.pend := rfl
@[simp] theorem writePc_resetIn : (writePc s a).resetIn = s.resetIn := rfl
@[simp] theorem writePc_rand8 : (writePc s a).rand8 = s.rand8 := rfl
@[simp] theorem writePc_displayOut : (writePc s a).displayOut = s.displayOut := rfl
@[simp] theorem writePc_debugOut : (writePc s a).debugOut = s.debugOut := rfl
@[simp] theorem writePc_params : (writePc s a).params = s.params := rfl
@[simp] theorem writePc_phase : (writePc s a).phase = s.phase := rfl
@[simp] theorem writePc_frames : (writePc s a).frames = s.frames := rfl
@[simp] theorem writePc_randTaken : (writePc s a).randTaken = s.randTaken := rfl
end writePcFields

section writeDtFields
variable (s : State) (b : Byte)
@[simp] theorem writeDt_mem : (writeDt s b).mem = s.mem := rfl
@[simp] theorem writeDt_v : (writeDt s b).v = s.v := rfl
@[simp] theorem writeDt_i : (writeDt s b).i = s.i := rfl
@[simp] theorem writeDt_pc : (writeDt s b).pc = s.pc := rfl
@[simp] theorem writeDt_stack : (writeDt s b).stack = s.stack := rfl
@[simp] theorem writeDt_sp : (writeDt s b).sp = s.sp := rfl
@[simp] theorem writeDt_disp : (writeDt s b).disp = s.disp := rfl
@[simp] theorem writeDt_keys : (writeDt s b).keys = s.keys := rfl
@[simp] theorem writeDt_dt : (writeDt s b).dt = b := rfl
@[simp] theorem writeDt_st : (writeDt s b).st = s.st := rfl
@[simp] theorem writeDt_run : (writeDt s b).run = s.run := rfl
@[simp] theorem writeDt_inst : (writeDt s b).inst = s.inst := rfl
@[simp] theorem writeDt_wk : (writeDt s b).wk = s.wk := rfl
@[simp] theorem writeDt_tone : (writeDt s b).tone = s.tone := rfl
@[simp] theorem writeDt_fault : (writeDt s b).fault = s.fault := rfl
@[simp] theorem writeDt_batchLeft : (writeDt s b).batchLeft = s.batchLeft := rfl
@[simp] theorem writeDt_pend : (writeDt s b).pend = s.pend := rfl
@[simp] theorem writeDt_resetIn : (writeDt s b).resetIn = s.resetIn := rfl
@[simp] theorem writeDt_rand8 : (writeDt s b).rand8 = s.rand8 := rfl
@[simp] theorem writeDt_displayOut : (writeDt s b).displayOut = s.displayOut := rfl
@[simp] theorem writeDt_debugOut : (writeDt s b).debugOut = s.debugOut := rfl
@[simp] theorem writeDt_params : (writeDt s b).params = s.params := rfl
@[simp] theorem writeDt_phase : (writeDt s b).phase = s.phase := rfl
@[simp] theorem writeDt_frames : (writeDt s b).frames = s.frames := rfl
@[simp] theorem writeDt_randTaken : (writeDt s b).randTaken = s.randTaken := rfl
end writeDtFields

section writeStFields
variable (s : State) (b : Byte)
@[simp] theorem writeSt_mem : (writeSt s b).mem = s.mem := rfl
@[simp] theorem writeSt_v : (writeSt s b).v = s.v := rfl
@[simp] theorem writeSt_i : (writeSt s b).i = s.i := rfl
@[simp] theorem writeSt_pc : (writeSt s b).pc = s.pc := rfl
@[simp] theorem writeSt_stack : (writeSt s b).stack = s.stack := rfl
@[simp] theorem writeSt_sp : (writeSt s b).sp = s.sp := rfl
@[simp] theorem writeSt_disp : (writeSt s b).disp = s.disp := rfl
@[simp] theorem writeSt_keys : (writeSt s b).keys = s.keys := rfl
@[simp] theorem writeSt_dt : (writeSt s b).dt = s.dt := rfl
@[simp] theorem writeSt_st : (writeSt s b).st = b := rfl
@[simp] theorem writeSt_run : (writeSt s b).run = s.run := rfl
@[simp] theorem writeSt_inst : (writeSt s b).inst = s.inst := rfl
@[simp] theorem writeSt_wk : (writeSt s b).wk = s.wk := rfl
@[simp] theorem writeSt_tone : (writeSt s b).tone = s.tone := rfl
@[simp] theorem writeSt_fault : (writeSt s b).fault = s.fault := rfl
@[simp] theorem writeSt_batchLeft : (writeSt s b).batchLeft = s.batchLeft := rfl
@[simp] theorem writeSt_pend : (writeSt s b).pend = s.pend := rfl
@[simp] theorem writeSt_resetIn : (writeSt s b).resetIn = s.resetIn := rfl
@[simp] theorem writeSt_rand8 : (writeSt s b).rand8 = s.rand8 := rfl
@[simp] theorem writeSt_displayOut : (writeSt s b).displayOut = s.displayOut := rfl
@[simp] theorem writeSt_debugOut : (writeSt s b).debugOut = s.debugOut := rfl
@[simp] theorem writeSt_params : (writeSt s b).params = s.params := rfl
@[simp] theorem writeSt_phase : (writeSt s b).phase = s.phase := rfl
@[simp] theorem writeSt_frames : (writeSt s b).frames = s.frames := rfl
@[simp] theorem writeSt_randTaken : (writeSt s b).randTaken = s.randTaken := rfl
end writeStFields

section writeWkFields
variable (s : State) (w : KeyWait)
@[simp] theorem writeWk_mem : (writeWk s w).mem = s.mem := rfl
@[simp] theorem writeWk_v : (writeWk s w).v = s.v := rfl
@[simp] theorem writeWk_i : (writeWk s w).i = s.i := rfl
@[simp] theorem writeWk_pc : (writeWk s w).pc = s.pc := rfl
@[simp] theorem writeWk_stack : (writeWk s w).stack = s.stack := rfl
@[simp] theorem writeWk_sp : (writeWk s w).sp = s.sp := rfl
@[simp] theorem writeWk_disp : (writeWk s w).disp = s.disp := rfl
@[simp] theorem writeWk_keys : (writeWk s w).keys = s.keys := rfl
@[simp] theorem writeWk_dt : (writeWk s w).dt = s.dt := rfl
@[simp] theorem writeWk_st : (writeWk s w).st = s.st := rfl
@[simp] theorem writeWk_run : (writeWk s w).run = s.run := rfl
@[simp] theorem writeWk_inst : (writeWk s w).inst = s.inst := rfl
@[simp] theorem writeWk_wk : (writeWk s w).wk = w := rfl
@[simp] theorem writeWk_tone : (writeWk s w).tone = s.tone := rfl
@[simp] theorem writeWk_fault : (writeWk s w).fault = s.fault := rfl
@[simp] theorem writeWk_batchLeft : (writeWk s w).batchLeft = s.batchLeft := rfl
@[simp] theorem writeWk_pend : (writeWk s w).pend = s.pend := rfl
@[simp] theorem writeWk_resetIn : (writeWk s w).resetIn = s.resetIn := rfl
@[simp] theorem writeWk_rand8 : (writeWk s w).rand8 = s.rand8 := rfl
@[simp] theorem writeWk_displayOut : (writeWk s w).displayOut = s.displayOut := rfl
@[simp] theorem writeWk_debugOut : (writeWk s w).debugOut = s.debugOut := rfl
@[simp] theorem writeWk_params : (writeWk s w).params = s.params := rfl
@[simp] theorem writeWk_phase : (writeWk s w).phase = s.phase := rfl
@[simp] theorem writeWk_frames : (writeWk s w).frames = s.frames := rfl
@[simp] theorem writeWk_randTaken : (writeWk s w).randTaken = s.randTaken := rfl
end writeWkFields

section skipIfFields
variable (s : State) (c : Bool)
@[simp] theorem skipIf_mem : (skipIf c s).mem = s.mem := rfl
@[simp] theorem skipIf_v : (skipIf c s).v = s.v := rfl
@[simp] theorem skipIf_i : (skipIf c s).i = s.i := rfl
@[simp] theorem skipIf_pc : (skipIf c s).pc = if c then s.pc + 2 else s.pc := rfl
@[simp] theorem skipIf_stack : (skipIf c s).stack = s.stack := rfl
@[simp] theorem skipIf_sp : (skipIf c s).sp = s.sp := rfl
@[simp] theorem skipIf_disp : (skipIf c s).disp = s.disp := rfl
@[simp] theorem skipIf_keys : (skipIf c s).keys = s.keys := rfl
@[simp] theorem skipIf_dt : (skipIf c s).dt = s.dt := rfl
@[simp] theorem skipIf_st : (skipIf c s).st = s.st := rfl
@[simp] theorem skipIf_run : (skipIf c s).run = s.run := rfl
@[simp] theorem skipIf_inst : (skipIf c s).inst = s.inst := rfl
@[simp] theorem skipIf_wk : (skipIf c s).wk = s.wk := rfl
@[simp] theorem skipIf_tone : (skipIf c s).tone = s.tone := rfl
@[simp] theorem skipIf_fault : (skipIf c s).fault = s.fault := rfl
@[simp] theorem skipIf_batchLeft : (skipIf c s).batchLeft = s.batchLeft := rfl
@[simp] theorem skipIf_pend : (skipIf c s).pend = s.pend := rfl
@[simp] theorem skipIf_resetIn : (skipIf c s).resetIn = s.resetIn := rfl
@[simp] theorem skipIf_rand8 : (skipIf c s).rand8 = s.rand8 := rfl
@[simp] theorem skipIf_displayOut : (skipIf c s).displayOut = s.displayOut := rfl
@[simp] theorem skipIf_debugOut : (skipIf c s).debugOut = s.debugOut := rfl
@[simp] theorem skipIf_params : (skipIf c s).params = s.params := rfl
@[simp] theorem skipIf_phase : (skipIf c s).phase = s.phase := rfl
@[simp] theorem skipIf_frames : (skipIf c s).frames = s.frames := rfl
@[simp] theorem skipIf_randTaken : (skipIf c s).randTaken = s.randTaken := rfl
end skipIfFields

section rewindPcFields
variable (s : State)
@[simp] theorem rewindPc_mem : (rewindPc s).mem = s.mem := rfl
@[simp] theorem rewindPc_v : (rewindPc s).v = s.v := rfl
@[simp] theorem rewindPc_i : (rewindPc s).i = s.i := rfl
@[simp] theorem rewindPc_pc : (rewindPc s).pc = s.pc - 2 := rfl
@[simp] theorem rewindPc_stack : (rewindPc s).stack = s.stack := rfl
@[simp] theorem rewindPc_sp : (rewindPc s).sp = s.sp := rfl
@[simp] theorem rewindPc_disp : (rewindPc s).disp = s.disp := rfl
@[simp] theorem rewindPc_keys : (rewindPc s).keys = s.keys := rfl
@[simp] theorem rewindPc_dt : (rewindPc s).dt = s.dt := rfl
@[simp] theorem rewindPc_st : (rewindPc s).st = s.st := rfl
@[simp] theorem rewindPc_run : (rewindPc s).run = s.run := rfl
@[simp] theorem rewindPc_inst : (rewindPc s).inst = s.inst := rfl
@[simp] theorem rewindPc_wk : (rewindPc s).wk = s.wk := rfl
@[simp] theorem rewindPc_tone : (rewindPc s).tone = s.tone := rfl
@[simp] theorem rewindPc_fault : (rewindPc s).fault = s.fault := rfl
@[simp] theorem rewindPc_batchLeft : (rewindPc s).batchLeft = s.batchLeft := rfl
@[simp] theorem rewindPc_pend : (rewindPc s).pend = s.pend := rfl
@[simp] theorem rewindPc_resetIn : (rewindPc s).resetIn = s.resetIn := rfl
@[simp] theorem rewindPc_rand8 : (rewindPc s).rand8 = s.rand8 := rfl
@[simp] theorem rewindPc_displayOut : (rewindPc s).displayOut = s.displayOut := rfl
@[simp] theorem rewindPc_debugOut : (rewindPc s).debugOut = s.debugOut := rfl
@[simp] theorem rewindPc_params : (rewindPc s).params = s.params := rfl
@[simp] theorem rewindPc_phase : (rewindPc s).phase = s.phase := rfl
@[simp] theorem rewindPc_frames : (rewindPc s).frames = s.frames := rfl
@[simp] theorem rewindPc_randTaken : (rewindPc s).randTaken = s.randTaken := rfl
end rewindPcFields

section takeRandFields
variable (s : State)
@[simp] theorem takeRand_mem : (takeRand s).mem = s.mem := rfl
@[simp] theorem takeRand_v : (takeRand s).v = s.v := rfl
@[simp] theorem takeRand_i : (takeRand s).i = s.i := rfl
@[simp] theorem takeRand_pc : (takeRand s).pc = s.pc := rfl
@[simp] theorem takeRand_stack : (takeRand s).stack = s.stack := rfl
@[simp] theorem takeRand_sp : (takeRand s).sp = s.sp := rfl
@[simp] theorem takeRand_disp : (takeRand s).disp = s.disp := rfl
@[simp] theorem takeRand_keys : (takeRand s).keys = s.keys := rfl
@[simp] theorem takeRand_dt : (takeRand s).dt = s.dt := rfl
@[simp] theorem takeRand_st : (takeRand s).st = s.st := rfl
@[simp] theorem takeRand_run : (takeRand s).run = s.run := rfl
@[simp] theorem takeRand_inst : (takeRand s).inst = s.inst := rfl
@[simp] theorem takeRand_wk : (takeRand s).wk = s.wk := rfl
@[simp] theorem takeRand_tone : (takeRand s).tone = s.tone := rfl
@[simp] theorem takeRand_fault : (takeRand s).fault = s.fault := rfl
@[simp] theorem takeRand_batchLeft : (takeRand s).batchLeft = s.batchLeft := rfl
@[simp] theorem takeRand_pend : (takeRand s).pend = s.pend := rfl
@[simp] theorem takeRand_resetIn : (takeRand s).resetIn = s.resetIn := rfl
@[simp] theorem takeRand_rand8 : (takeRand s).rand8 = Config.rand8 (s.randTaken + 1) := rfl
@[simp] theorem takeRand_displayOut : (takeRand s).displayOut = s.displayOut := rfl
@[simp] theorem takeRand_debugOut : (takeRand s).debugOut = s.debugOut := rfl
@[simp] theorem takeRand_params : (takeRand s).params = s.params := rfl
@[simp] theorem takeRand_phase : (takeRand s).phase = s.phase := rfl
@[simp] theorem takeRand_frames : (takeRand s).frames = s.frames := rfl
@[simp] theorem takeRand_randTaken : (takeRand s).randTaken = s.randTaken + 1 := rfl
end takeRandFields

section pushPcFields
variable (s : State)
@[simp] theorem pushPc_mem : (pushPc s).mem = s.mem := rfl
@[simp] theorem pushPc_v : (pushPc s).v = s.v := rfl
@[simp] theorem pushPc_i : (pushPc s).i = s.i := rfl
@[simp] theorem pushPc_pc : (pushPc s).pc = s.pc := rfl
@[simp] theorem pushPc_stack : (pushPc s).stack = s.stack.setIfInBounds s.sp.val s.pc := rfl
@[simp] theorem pushPc_sp : (pushPc s).sp = s.sp + 1 := rfl
@[simp] theorem pushPc_disp : (pushPc s).disp = s.disp := rfl
@[simp] theorem pushPc_keys : (pushPc s).keys = s.keys := rfl
@[simp] theorem pushPc_dt : (pushPc s).dt = s.dt := rfl
@[simp] theorem pushPc_st : (pushPc s).st = s.st := rfl
@[simp] theorem pushPc_run : (pushPc s).run = s.run := rfl
@[simp] theorem pushPc_inst : (pushPc s).inst = s.inst := rfl
@[simp] theorem pushPc_wk : (pushPc s).wk = s.wk := rfl
@[simp] theorem pushPc_tone : (pushPc s).tone = s.tone := rfl
@[simp] theorem pushPc_fault : (pushPc s).fault = s.fault := rfl
@[simp] theorem pushPc_batchLeft : (pushPc s).batchLeft = s.batchLeft := rfl
@[simp] theorem pushPc_pend : (pushPc s).pend = s.pend := rfl
@[simp] theorem pushPc_resetIn : (pushPc s).resetIn = s.resetIn := rfl
@[simp] theorem pushPc_rand8 : (pushPc s).rand8 = s.rand8 := rfl
@[simp] theorem pushPc_displayOut : (pushPc s).displayOut = s.displayOut := rfl
@[simp] theorem pushPc_debugOut : (pushPc s).debugOut = s.debugOut := rfl
@[simp] theorem pushPc_params : (pushPc s).params = s.params := rfl
@[simp] theorem pushPc_phase : (pushPc s).phase = s.phase := rfl
@[simp] theorem pushPc_frames : (pushPc s).frames = s.frames := rfl
@[simp] theorem pushPc_randTaken : (pushPc s).randTaken = s.randTaken := rfl
end pushPcFields

section popPcFields
variable (s : State)
@[simp] theorem popPc_mem : (popPc s).mem = s.mem := rfl
@[simp] theorem popPc_v : (popPc s).v = s.v := rfl
@[simp] theorem popPc_i : (popPc s).i = s.i := rfl
@[simp] theorem popPc_pc : (popPc s).pc = stackEntry s (s.sp.val - 1) := rfl
@[simp] theorem popPc_stack : (popPc s).stack = s.stack := rfl
@[simp] theorem popPc_sp : (popPc s).sp = s.sp - 1 := rfl
@[simp] theorem popPc_disp : (popPc s).disp = s.disp := rfl
@[simp] theorem popPc_keys : (popPc s).keys = s.keys := rfl
@[simp] theorem popPc_dt : (popPc s).dt = s.dt := rfl
@[simp] theorem popPc_st : (popPc s).st = s.st := rfl
@[simp] theorem popPc_run : (popPc s).run = s.run := rfl
@[simp] theorem popPc_inst : (popPc s).inst = s.inst := rfl
@[simp] theorem popPc_wk : (popPc s).wk = s.wk := rfl
@[simp] theorem popPc_tone : (popPc s).tone = s.tone := rfl
@[simp] theorem popPc_fault : (popPc s).fault = s.fault := rfl
@[simp] theorem popPc_batchLeft : (popPc s).batchLeft = s.batchLeft := rfl
@[simp] theorem popPc_pend : (popPc s).pend = s.pend := rfl
@[simp] theorem popPc_resetIn : (popPc s).resetIn = s.resetIn := rfl
@[simp] theorem popPc_rand8 : (popPc s).rand8 = s.rand8 := rfl
@[simp] theorem popPc_displayOut : (popPc s).displayOut = s.displayOut := rfl
@[simp] theorem popPc_debugOut : (popPc s).debugOut = s.debugOut := rfl
@[simp] theorem popPc_params : (popPc s).params = s.params := rfl
@[simp] theorem popPc_phase : (popPc s).phase = s.phase := rfl
@[simp] theorem popPc_frames : (popPc s).frames = s.frames := rfl
@[simp] theorem popPc_randTaken : (popPc s).randTaken = s.randTaken := rfl
end popPcFields

section writeDispFields
variable (s : State) (g : Grid)
@[simp] theorem writeDisp_mem : (writeDisp s g).mem = s.mem := rfl
@[simp] theorem writeDisp_v : (writeDisp s g).v = s.v := rfl
@[simp] theorem writeDisp_i : (writeDisp s g).i = s.i := rfl
@[simp] theorem writeDisp_pc : (writeDisp s g).pc = s.pc := rfl
@[simp] theorem writeDisp_stack : (writeDisp s g).stack = s.stack := rfl
@[simp] theorem writeDisp_sp : (writeDisp s g).sp = s.sp := rfl
@[simp] theorem writeDisp_disp : (writeDisp s g).disp = g := rfl
@[simp] theorem writeDisp_keys : (writeDisp s g).keys = s.keys := rfl
@[simp] theorem writeDisp_dt : (writeDisp s g).dt = s.dt := rfl
@[simp] theorem writeDisp_st : (writeDisp s g).st = s.st := rfl
@[simp] theorem writeDisp_run : (writeDisp s g).run = s.run := rfl
@[simp] theorem writeDisp_inst : (writeDisp s g).inst = s.inst := rfl
@[simp] theorem writeDisp_wk : (writeDisp s g).wk = s.wk := rfl
@[simp] theorem writeDisp_tone : (writeDisp s g).tone = s.tone := rfl
@[simp] theorem writeDisp_fault : (writeDisp s g).fault = s.fault := rfl
@[simp] theorem writeDisp_batchLeft : (writeDisp s g).batchLeft = s.batchLeft := rfl
@[simp] theorem writeDisp_pend : (writeDisp s g).pend = s.pend := rfl
@[simp] theorem writeDisp_resetIn : (writeDisp s g).resetIn = s.resetIn := rfl
@[simp] theorem writeDisp_rand8 : (writeDisp s g).rand8 = s.rand8 := rfl
@[simp] theorem writeDisp_displayOut : (writeDisp s g).displayOut = s.displayOut := rfl
@[simp] theorem writeDisp_debugOut : (writeDisp s g).debugOut = s.debugOut := rfl
@[simp] theorem writeDisp_params : (writeDisp s g).params = s.params := rfl
@[simp] theorem writeDisp_phase : (writeDisp s g).phase = s.phase := rfl
@[simp] theorem writeDisp_frames : (writeDisp s g).frames = s.frames := rfl
@[simp] theorem writeDisp_randTaken : (writeDisp s g).randTaken = s.randTaken := rfl
end writeDispFields

section writeKeyFields
variable (s : State) (k : Nibble) (b : Bool)
@[simp] theorem writeKey_mem : (writeKey s k b).mem = s.mem := rfl
@[simp] theorem writeKey_v : (writeKey s k b).v = s.v := rfl
@[simp] theorem writeKey_i : (writeKey s k b).i = s.i := rfl
@[simp] theorem writeKey_pc : (writeKey s k b).pc = s.pc := rfl
@[simp] theorem writeKey_stack : (writeKey s k b).stack = s.stack := rfl
@[simp] theorem writeKey_sp : (writeKey s k b).sp = s.sp := rfl
@[simp] theorem writeKey_disp : (writeKey s k b).disp = s.disp := rfl
@[simp] theorem writeKey_keys : (writeKey s k b).keys = s.keys.set k.toNat b := rfl
@[simp] theorem writeKey_dt : (writeKey s k b).dt = s.dt := rfl
@[simp] theorem writeKey_st : (writeKey s k b).st = s.st := rfl
@[simp] theorem writeKey_run : (writeKey s k b).run = s.run := rfl
@[simp] theorem writeKey_inst : (writeKey s k b).inst = s.inst := rfl
@[simp] theorem writeKey_wk : (writeKey s k b).wk = s.wk := rfl
@[simp] theorem writeKey_tone : (writeKey s k b).tone = s.tone := rfl
@[simp] theorem writeKey_fault : (writeKey s k b).fault = s.fault := rfl
@[simp] theorem writeKey_batchLeft : (writeKey s k b).batchLeft = s.batchLeft := rfl
@[simp] theorem writeKey_pend : (writeKey s k b).pend = s.pend := rfl
@[simp] theorem writeKey_resetIn : (writeKey s k b).resetIn = s.resetIn := rfl
@[simp] theorem writeKey_rand8 : (writeKey s k b).rand8 = s.rand8 := rfl
@[simp] theorem writeKey_displayOut : (writeKey s k b).displayOut = s.displayOut := rfl
@[simp] theorem writeKey_debugOut : (writeKey s k b).debugOut = s.debugOut := rfl
@[simp] theorem writeKey_params : (writeKey s k b).params = s.params := rfl
@[simp] theorem writeKey_phase : (writeKey s k b).phase = s.phase := rfl
@[simp] theorem writeKey_frames : (writeKey s k b).frames = s.frames := rfl
@[simp] theorem writeKey_randTaken : (writeKey s k b).randTaken = s.randTaken := rfl
end writeKeyFields

section emitFields
variable (s : State) (r : DebugRecord)
@[simp] theorem emit_mem : (emit s r).mem = s.mem := rfl
@[simp] theorem emit_v : (emit s r).v = s.v := rfl
@[simp] theorem emit_i : (emit s r).i = s.i := rfl
@[simp] theorem emit_pc : (emit s r).pc = s.pc := rfl
@[simp] theorem emit_stack : (emit s r).stack = s.stack := rfl
@[simp] theorem emit_sp : (emit s r).sp = s.sp := rfl
@[simp] theorem emit_disp : (emit s r).disp = s.disp := rfl
@[simp] theorem emit_keys : (emit s r).keys = s.keys := rfl
@[simp] theorem emit_dt : (emit s r).dt = s.dt := rfl
@[simp] theorem emit_st : (emit s r).st = s.st := rfl
@[simp] theorem emit_run : (emit s r).run = s.run := rfl
@[simp] theorem emit_inst : (emit s r).inst = s.inst := rfl
@[simp] theorem emit_wk : (emit s r).wk = s.wk := rfl
@[simp] theorem emit_tone : (emit s r).tone = s.tone := rfl
@[simp] theorem emit_fault : (emit s r).fault = s.fault := rfl
@[simp] theorem emit_batchLeft : (emit s r).batchLeft = s.batchLeft := rfl
@[simp] theorem emit_pend : (emit s r).pend = s.pend := rfl
@[simp] theorem emit_resetIn : (emit s r).resetIn = s.resetIn := rfl
@[simp] theorem emit_rand8 : (emit s r).rand8 = s.rand8 := rfl
@[simp] theorem emit_displayOut : (emit s r).displayOut = s.displayOut := rfl
@[simp] theorem emit_debugOut : (emit s r).debugOut = if s.params.debugEn then s.debugOut ++ [r] else s.debugOut := rfl
@[simp] theorem emit_params : (emit s r).params = s.params := rfl
@[simp] theorem emit_phase : (emit s r).phase = s.phase := rfl
@[simp] theorem emit_frames : (emit s r).frames = s.frames := rfl
@[simp] theorem emit_randTaken : (emit s r).randTaken = s.randTaken := rfl
end emitFields

section beginStepFields
variable (s : State)
@[simp] theorem beginStep_mem : (beginStep s).mem = s.mem := rfl
@[simp] theorem beginStep_v : (beginStep s).v = s.v := rfl
@[simp] theorem beginStep_i : (beginStep s).i = s.i := rfl
@[simp] theorem beginStep_pc : (beginStep s).pc = s.pc := rfl
@[simp] theorem beginStep_stack : (beginStep s).stack = s.stack := rfl
@[simp] theorem beginStep_sp : (beginStep s).sp = s.sp := rfl
@[simp] theorem beginStep_disp : (beginStep s).disp = s.disp := rfl
@[simp] theorem beginStep_keys : (beginStep s).keys = s.keys := rfl
@[simp] theorem beginStep_dt : (beginStep s).dt = s.dt := rfl
@[simp] theorem beginStep_st : (beginStep s).st = s.st := rfl
@[simp] theorem beginStep_run : (beginStep s).run = s.run := rfl
@[simp] theorem beginStep_inst : (beginStep s).inst = s.inst := rfl
@[simp] theorem beginStep_wk : (beginStep s).wk = s.wk := rfl
@[simp] theorem beginStep_tone : (beginStep s).tone = s.tone := rfl
@[simp] theorem beginStep_fault : (beginStep s).fault = s.fault := rfl
@[simp] theorem beginStep_batchLeft : (beginStep s).batchLeft = s.batchLeft := rfl
@[simp] theorem beginStep_pend : (beginStep s).pend = s.pend := rfl
@[simp] theorem beginStep_resetIn : (beginStep s).resetIn = s.resetIn.map (· - 1) := rfl
@[simp] theorem beginStep_rand8 : (beginStep s).rand8 = s.rand8 := rfl
@[simp] theorem beginStep_displayOut : (beginStep s).displayOut = s.displayOut := rfl
@[simp] theorem beginStep_debugOut : (beginStep s).debugOut = [] := rfl
@[simp] theorem beginStep_params : (beginStep s).params = s.params := rfl
@[simp] theorem beginStep_phase : (beginStep s).phase = s.phase := rfl
@[simp] theorem beginStep_frames : (beginStep s).frames = s.frames := rfl
@[simp] theorem beginStep_randTaken : (beginStep s).randTaken = s.randTaken := rfl
end beginStepFields

section raiseStackOverflowFields
variable (s : State)
@[simp] theorem raiseStackOverflow_mem : (raiseStackOverflow s).mem = s.mem := rfl
@[simp] theorem raiseStackOverflow_v : (raiseStackOverflow s).v = s.v := rfl
@[simp] theorem raiseStackOverflow_i : (raiseStackOverflow s).i = s.i := rfl
@[simp] theorem raiseStackOverflow_pc : (raiseStackOverflow s).pc = s.pc := rfl
@[simp] theorem raiseStackOverflow_stack : (raiseStackOverflow s).stack = s.stack := rfl
@[simp] theorem raiseStackOverflow_sp : (raiseStackOverflow s).sp = s.sp := rfl
@[simp] theorem raiseStackOverflow_disp : (raiseStackOverflow s).disp = s.disp := rfl
@[simp] theorem raiseStackOverflow_keys : (raiseStackOverflow s).keys = s.keys := rfl
@[simp] theorem raiseStackOverflow_dt : (raiseStackOverflow s).dt = s.dt := rfl
@[simp] theorem raiseStackOverflow_st : (raiseStackOverflow s).st = s.st := rfl
@[simp] theorem raiseStackOverflow_run : (raiseStackOverflow s).run = s.run := rfl
@[simp] theorem raiseStackOverflow_inst : (raiseStackOverflow s).inst = s.inst := rfl
@[simp] theorem raiseStackOverflow_wk : (raiseStackOverflow s).wk = s.wk := rfl
@[simp] theorem raiseStackOverflow_tone : (raiseStackOverflow s).tone = s.tone := rfl
@[simp] theorem raiseStackOverflow_fault : (raiseStackOverflow s).fault = .stackOverflow := rfl
@[simp] theorem raiseStackOverflow_batchLeft : (raiseStackOverflow s).batchLeft = 0 := rfl
@[simp] theorem raiseStackOverflow_pend : (raiseStackOverflow s).pend = s.pend := rfl
@[simp] theorem raiseStackOverflow_resetIn : (raiseStackOverflow s).resetIn = s.resetIn := rfl
@[simp] theorem raiseStackOverflow_rand8 : (raiseStackOverflow s).rand8 = s.rand8 := rfl
@[simp] theorem raiseStackOverflow_displayOut : (raiseStackOverflow s).displayOut = s.displayOut := rfl
@[simp] theorem raiseStackOverflow_debugOut : (raiseStackOverflow s).debugOut = (emit s (.stackOverflow (fetchedFrom s) s.inst.opcode)).debugOut := rfl
@[simp] theorem raiseStackOverflow_params : (raiseStackOverflow s).params = s.params := rfl
@[simp] theorem raiseStackOverflow_phase : (raiseStackOverflow s).phase = s.phase := rfl
@[simp] theorem raiseStackOverflow_frames : (raiseStackOverflow s).frames = s.frames := rfl
@[simp] theorem raiseStackOverflow_randTaken : (raiseStackOverflow s).randTaken = s.randTaken := rfl
end raiseStackOverflowFields

section raiseStackUnderflowFields
variable (s : State)
@[simp] theorem raiseStackUnderflow_mem : (raiseStackUnderflow s).mem = s.mem := rfl
@[simp] theorem raiseStackUnderflow_v : (raiseStackUnderflow s).v = s.v := rfl
@[simp] theorem raiseStackUnderflow_i : (raiseStackUnderflow s).i = s.i := rfl
@[simp] theorem raiseStackUnderflow_pc : (raiseStackUnderflow s).pc = s.pc := rfl
@[simp] theorem raiseStackUnderflow_stack : (raiseStackUnderflow s).stack = s.stack := rfl
@[simp] theorem raiseStackUnderflow_sp : (raiseStackUnderflow s).sp = s.sp := rfl
@[simp] theorem raiseStackUnderflow_disp : (raiseStackUnderflow s).disp = s.disp := rfl
@[simp] theorem raiseStackUnderflow_keys : (raiseStackUnderflow s).keys = s.keys := rfl
@[simp] theorem raiseStackUnderflow_dt : (raiseStackUnderflow s).dt = s.dt := rfl
@[simp] theorem raiseStackUnderflow_st : (raiseStackUnderflow s).st = s.st := rfl
@[simp] theorem raiseStackUnderflow_run : (raiseStackUnderflow s).run = s.run := rfl
@[simp] theorem raiseStackUnderflow_inst : (raiseStackUnderflow s).inst = s.inst := rfl
@[simp] theorem raiseStackUnderflow_wk : (raiseStackUnderflow s).wk = s.wk := rfl
@[simp] theorem raiseStackUnderflow_tone : (raiseStackUnderflow s).tone = s.tone := rfl
@[simp] theorem raiseStackUnderflow_fault : (raiseStackUnderflow s).fault = .stackUnderflow := rfl
@[simp] theorem raiseStackUnderflow_batchLeft : (raiseStackUnderflow s).batchLeft = 0 := rfl
@[simp] theorem raiseStackUnderflow_pend : (raiseStackUnderflow s).pend = s.pend := rfl
@[simp] theorem raiseStackUnderflow_resetIn : (raiseStackUnderflow s).resetIn = s.resetIn := rfl
@[simp] theorem raiseStackUnderflow_rand8 : (raiseStackUnderflow s).rand8 = s.rand8 := rfl
@[simp] theorem raiseStackUnderflow_displayOut : (raiseStackUnderflow s).displayOut = s.displayOut := rfl
@[simp] theorem raiseStackUnderflow_debugOut : (raiseStackUnderflow s).debugOut = (emit s (.stackUnderflow (fetchedFrom s) s.inst.opcode)).debugOut := rfl
@[simp] theorem raiseStackUnderflow_params : (raiseStackUnderflow s).params = s.params := rfl
@[simp] theorem raiseStackUnderflow_phase : (raiseStackUnderflow s).phase = s.phase := rfl
@[simp] theorem raiseStackUnderflow_frames : (raiseStackUnderflow s).frames = s.frames := rfl
@[simp] theorem raiseStackUnderflow_randTaken : (raiseStackUnderflow s).randTaken = s.randTaken := rfl
end raiseStackUnderflowFields

end Sys2Proof.Machine
end

