-- ==== Sys2Proof/Laws/Memory.lean ====
section
/-! SUPPORT. The laws of RAM: a read after a write, the canonical form kept by every memory operation and fixing the
data, and the same for consecutive bytes. -/

namespace Sys2Proof.Machine

variable {font : List Byte} {m m' : Memory} {lo a c : Nat} {b : Byte}

theorem Memory.wfFrom_mono {lo' : Nat} (h : Memory.wfFrom font lo m = true) (hle : lo' ≤ lo) :
    Memory.wfFrom font lo' m = true := by
  cases m with
  | nil => rfl
  | cons kb rest =>
    obtain ⟨k, b⟩ := kb
    simp only [Memory.wfFrom, Bool.and_eq_true, decide_eq_true_eq] at h ⊢
    exact ⟨⟨⟨by omega, h.1.1.2⟩, h.1.2⟩, h.2⟩

/-- Below every listed address nothing is listed. -/
theorem Memory.read_below (h : Memory.wfFrom font lo m = true) (ha : a < lo) :
    Memory.read font m a = Memory.unlisted font a := by
  induction m generalizing lo with
  | nil => rfl
  | cons kb rest ih =>
    obtain ⟨k, b⟩ := kb
    simp only [Memory.wfFrom, Bool.and_eq_true, decide_eq_true_eq] at h
    have : k ≠ a := by omega
    simpa [Memory.read, this] using ih h.2 (by omega)

theorem Memory.read_consUnless (h : Memory.read font m a = Memory.unlisted font a) :
    Memory.read font (Memory.consUnless font a b m) c = if a = c then b else Memory.read font m c := by
  unfold Memory.consUnless
  by_cases hb : b = Memory.unlisted font a
  · by_cases hc : a = c
    · subst hc; simp [hb, h]
    · simp [hb, hc]
  · simp [hb, Memory.read]

/-- A read after a write: the byte written at its address, every other byte as it was. -/
theorem Memory.read_write (h : Memory.wfFrom font lo m = true) :
    Memory.read font (Memory.write font m a b) c = if a = c then b else Memory.read font m c := by
  induction m generalizing lo with
  | nil => exact Memory.read_consUnless rfl
  | cons kd rest ih =>
    obtain ⟨k, d⟩ := kd
    have hw := h
    simp only [Memory.wfFrom, Bool.and_eq_true, decide_eq_true_eq] at h
    unfold Memory.write
    by_cases h1 : a < k
    · have hk : Memory.wfFrom font k ((k, d) :: rest) = true := by
        simp only [Memory.wfFrom, Bool.and_eq_true, decide_eq_true_eq]
        exact ⟨⟨⟨le_refl k, h.1.1.2⟩, h.1.2⟩, h.2⟩
      rw [if_pos h1]
      exact Memory.read_consUnless (Memory.read_below hk h1)
    · rw [if_neg h1]
      by_cases h2 : a = k
      · subst h2
        rw [if_pos rfl, Memory.read_consUnless (Memory.read_below h.2 (by omega))]
        by_cases hc : a = c <;> simp [Memory.read, hc]
      · rw [if_neg h2]
        have := ih h.2
        by_cases hk : k = c
        · have hac : a ≠ c := by omega
          simp [Memory.read, hk, hac]
        · simpa [Memory.read, hk] using this

theorem Memory.wfFrom_consUnless (h : Memory.wfFrom font (a + 1) m = true) (hlo : lo ≤ a) (ha : a < Config.memSize) :
    Memory.wfFrom font lo (Memory.consUnless font a b m) = true := by
  unfold Memory.consUnless
  split
  · exact Memory.wfFrom_mono h (by omega)
  · simp_all [Memory.wfFrom]

theorem Memory.wfFrom_write (h : Memory.wfFrom font lo m = true) (hlo : lo ≤ a) (ha : a < Config.memSize) :
    Memory.wfFrom font lo (Memory.write font m a b) = true := by
  induction m generalizing lo with
  | nil => exact Memory.wfFrom_consUnless rfl hlo ha
  | cons kd rest ih =>
    obtain ⟨k, d⟩ := kd
    simp only [Memory.wfFrom, Bool.and_eq_true, decide_eq_true_eq] at h
    unfold Memory.write
    split
    · refine Memory.wfFrom_consUnless ?_ hlo ha
      simp only [Memory.wfFrom, Bool.and_eq_true, decide_eq_true_eq]
      exact ⟨⟨⟨by omega, h.1.1.2⟩, h.1.2⟩, h.2⟩
    · split
      · rename_i _ h2
        exact Memory.wfFrom_consUnless (Memory.wfFrom_mono h.2 (by omega)) hlo ha
      · simp only [Memory.wfFrom, Bool.and_eq_true, decide_eq_true_eq]
        exact ⟨⟨⟨h.1.1.1, h.1.1.2⟩, h.1.2⟩, ih h.2 (by omega)⟩

/-- A write keeps the canonical form. -/
theorem Memory.wf_write (h : Memory.wf font m = true) (ha : a < Config.memSize) :
    Memory.wf font (Memory.write font m a b) = true := Memory.wfFrom_write h (Nat.zero_le a) ha

/-- Writes of consecutive bytes keep the canonical form. -/
theorem Memory.wf_writeBytes (h : Memory.wf font m = true) (bs : List Byte) :
    Memory.wf font (Memory.writeBytes font m a bs) = true := by
  induction bs generalizing m a with
  | nil => exact h
  | cons b rest ih => exact ih (Memory.wf_write h (Nat.mod_lt _ (by decide)))

theorem Memory.wf_nil : Memory.wf font [] = true := rfl

/-- Bytes outside those written read as before. -/
theorem Memory.read_writeBytes_other (h : Memory.wf font m = true) (bs : List Byte)
    (hc : ∀ k < bs.length, (a + k) % Config.memSize ≠ c) :
    Memory.read font (Memory.writeBytes font m a bs) c = Memory.read font m c := by
  induction bs generalizing m a with
  | nil => rfl
  | cons b rest ih =>
    have h0 : a % Config.memSize ≠ c := by simpa using hc 0 (by simp)
    unfold Memory.writeBytes
    rw [ih (Memory.wf_write h (Nat.mod_lt _ (by decide)))
      (fun k hk => by have := hc (k + 1) (by simpa using hk); rwa [Nat.add_assoc, Nat.add_comm 1 k]),
      Memory.read_write (lo := 0) h, if_neg h0]

/-- The `k`-th byte written is read back at its address, when no more than 4096 bytes are written. -/
theorem Memory.read_writeBytes (h : Memory.wf font m = true) (bs : List Byte) (hlen : bs.length ≤ Config.memSize)
    {k : Nat} (hk : k < bs.length) :
    Memory.read font (Memory.writeBytes font m a bs) ((a + k) % Config.memSize) = bs[k] := by
  induction bs generalizing m a k with
  | nil => simp at hk
  | cons b rest ih =>
    have hw := Memory.wf_write (b := b) h (Nat.mod_lt a (show Config.memSize > 0 by decide))
    unfold Memory.writeBytes
    simp only [List.length_cons] at hlen hk
    cases k with
    | zero =>
      rw [Memory.read_writeBytes_other hw]
      · rw [Memory.read_write (lo := 0) h]; simp
      · intro j hj
        simp only [Config.memSize] at hlen ⊢
        omega
    | succ k =>
      have := ih (m := Memory.write font m (a % Config.memSize) b) (a := a + 1) (k := k) hw (by omega) (by omega)
      simpa [Nat.add_assoc, Nat.add_comm 1 k] using this

/-- Canonical memories that read alike from `lo` on are the same data. -/
theorem Memory.eq_of_read_eq (h : Memory.wfFrom font lo m = true) (h' : Memory.wfFrom font lo m' = true)
    (hr : ∀ a, lo ≤ a → a < Config.memSize → Memory.read font m a = Memory.read font m' a) : m = m' := by
  induction m generalizing lo m' with
  | nil =>
    cases m' with
    | nil => rfl
    | cons kd rest =>
      obtain ⟨k, d⟩ := kd
      simp only [Memory.wfFrom, Bool.and_eq_true, decide_eq_true_eq] at h'
      have := hr k h'.1.1.1 h'.1.1.2
      simp only [Memory.read, if_pos] at this
      exact absurd this.symm h'.1.2
  | cons kd rest ih =>
    obtain ⟨k, d⟩ := kd
    have hw := h
    simp only [Memory.wfFrom, Bool.and_eq_true, decide_eq_true_eq] at h
    cases m' with
    | nil =>
      have := hr k h.1.1.1 h.1.1.2
      simp only [Memory.read, if_pos] at this
      exact absurd this h.1.2
    | cons kd' rest' =>
      obtain ⟨k', d'⟩ := kd'
      have hw' := h'
      simp only [Memory.wfFrom, Bool.and_eq_true, decide_eq_true_eq] at h'
      have hkk : k = k' := by
        rcases Nat.lt_trichotomy k k' with hlt | heq | hgt
        · have := hr k h.1.1.1 h.1.1.2
          have hb : Memory.wfFrom font (k + 1) ((k', d') :: rest') = true := by
            simp only [Memory.wfFrom, Bool.and_eq_true, decide_eq_true_eq]
            exact ⟨⟨⟨by omega, h'.1.1.2⟩, h'.1.2⟩, h'.2⟩
          rw [Memory.read_below hb (by omega)] at this
          simp only [Memory.read, if_pos] at this
          exact absurd this h.1.2
        · exact heq
        · have := hr k' h'.1.1.1 h'.1.1.2
          have hb : Memory.wfFrom font (k' + 1) ((k, d) :: rest) = true := by
            simp only [Memory.wfFrom, Bool.and_eq_true, decide_eq_true_eq]
            exact ⟨⟨⟨by omega, h.1.1.2⟩, h.1.2⟩, h.2⟩
          rw [Memory.read_below hb (by omega)] at this
          simp only [Memory.read, if_pos] at this
          exact absurd this.symm h'.1.2
      subst hkk
      have hd : d = d' := by simpa [Memory.read] using hr k h.1.1.1 h.1.1.2
      subst hd
      have : rest = rest' := ih h.2 h'.2 (fun a hl hm => by
        have := hr a (by omega) hm
        have hka : k ≠ a := by omega
        simpa [Memory.read, hka] using this)
      rw [this]

/-! ## The machine's accesses -/

theorem memRead_mod (s : State) (a : Nat) : memRead s (a % Config.memSize) = memRead s a := by simp [memRead]

/-- Reading depends on RAM and the font alone. -/
theorem memRead_congr {s t : State} (hm : t.mem = s.mem) (hp : t.params = s.params) (a : Nat) :
    memRead t a = memRead s a := by simp [memRead, hm, hp]

/-- A read after a byte store (20_memory.md R62, R66). -/
theorem memRead_memWrite {s : State} (h : Memory.wf s.params.font s.mem = true) :
    memRead (memWrite s a b) c = if a % Config.memSize = c % Config.memSize then b else memRead s c :=
  Memory.read_write (lo := 0) h

theorem memWrite_wf {s : State} (h : Memory.wf s.params.font s.mem = true) :
    Memory.wf s.params.font (memWrite s a b).mem = true := Memory.wf_write h (Nat.mod_lt _ (by decide))

theorem memWriteBytes_wf {s : State} (h : Memory.wf s.params.font s.mem = true) (bs : List Byte) :
    Memory.wf s.params.font (memWriteBytes s a bs).mem = true := Memory.wf_writeBytes h bs

/-- The `k`-th byte stored is read back. -/
theorem memRead_memWriteBytes {s : State} (h : Memory.wf s.params.font s.mem = true) (bs : List Byte)
    (hlen : bs.length ≤ Config.memSize) {k : Nat} (hk : k < bs.length) :
    memRead (memWriteBytes s a bs) (a + k) = bs[k] := Memory.read_writeBytes h bs hlen hk

/-- Every byte outside those stored is as before. -/
theorem memRead_memWriteBytes_other {s : State} (h : Memory.wf s.params.font s.mem = true) (bs : List Byte)
    (hc : ∀ k < bs.length, (a + k) % Config.memSize ≠ c % Config.memSize) :
    memRead (memWriteBytes s a bs) c = memRead s c := Memory.read_writeBytes_other h bs hc

theorem memReadBytes_length (s : State) (a n : Nat) : (memReadBytes s a n).length = n := by simp [memReadBytes]

theorem memReadBytes_getElem {s : State} {n k : Nat} (hk : k < (memReadBytes s a n).length) :
    (memReadBytes s a n)[k] = memRead s (a + k) := by simp [memReadBytes]

end Sys2Proof.Machine
end

