-- ==== Sys2Proof/Laws/Display.lean ====
section
/-! SUPPORT. The laws of the display and what drawing a sprite does, pixel by pixel. -/

namespace Sys2Proof.Machine

/-- A pixel read after a pixel write inside the display. -/
theorem Grid.pixel_setPixel (g : Grid) {x y : Nat} (hx : x < 64) (hy : y < 32) (b : Bool) (x' y' : Nat) :
    Grid.pixel (Grid.setPixel g x y b) x' y' = if x' = x ∧ y' = y then b else Grid.pixel g x' y' := by
  unfold Grid.pixel Grid.setPixel
  have : g[y]? = some g[y] := by simp [hy]
  rw [this]
  by_cases h1 : y' = y
  · subst h1
    by_cases h2 : x' = x
    · subst h2; simp [hy, hx]
    · simp [h2, hy, Ne.symm h2]
  · simp [h1, Ne.symm h1]

@[simp] theorem Grid.pixel_blank (x y : Nat) : Grid.pixel blankGrid x y = false := by
  unfold Grid.pixel blankGrid
  by_cases hy : y < 32
  · by_cases hx : x < 64 <;> simp [hx, hy]
  · simp [hy]

/-- Grids with the same pixels are the same. -/
theorem Grid.eq_of_pixel_eq {g g' : Grid} (h : ∀ x y, x < 64 → y < 32 → Grid.pixel g x y = Grid.pixel g' x y) :
    g = g' := by
  apply Vector.ext
  intro y hy
  apply Vector.ext
  intro x hx
  simpa [Grid.pixel, hx, hy] using h x y hx hy

/-- Whether the sprite row `row` drawn from column `x0` has a bit 1 at column `x`. -/
def rowCovers (x0 : Nat) (row : Byte) (x : Nat) : Bool := decide (x0 ≤ x) && (decide (x < x0 + 8) && spriteBit row (x - x0))

/-- What the first `n` bits of a row do: the covered pixels of row `y` are toggled, and the flag records one that was on. -/
theorem blitBits_spec (x0 y : Nat) (row : Byte) (hy : y < 32) (g : Grid) (hit : Bool) (n : Nat) :
    let r := (List.range n).foldl (blitBit x0 y row) (g, hit)
    (∀ x' y', x' < 64 → Grid.pixel r.1 x' y' =
      (Grid.pixel g x' y' ^^ (decide (y' = y) && (decide (x0 ≤ x') && (decide (x' < x0 + n) && spriteBit row (x' - x0)))))) ∧
    (r.2 = true ↔ hit = true ∨ ∃ x', x' < 64 ∧ x0 ≤ x' ∧ x' < x0 + n ∧ spriteBit row (x' - x0) = true ∧
      Grid.pixel g x' y = true) := by
  induction n with
  | zero =>
    refine ⟨fun x' y' _ => ?_, ?_⟩
    · have : ¬ (x0 ≤ x' ∧ x' < x0) := by omega
      by_cases h : x0 ≤ x'
      · have h2 : ¬ x' < x0 := by omega
        simp [h2]
      · simp [h]
    · constructor
      · exact Or.inl
      · rintro (h | ⟨x', _, h1, h2, _⟩)
        · exact h
        · omega
  | succ n ih =>
    simp only [List.range_succ, List.foldl_append, List.foldl_cons, List.foldl_nil]
    generalize (List.range n).foldl (blitBit x0 y row) (g, hit) = r at ih
    obtain ⟨ihp, ihf⟩ := ih
    by_cases hc : x0 + n ≥ 64
    · have hb : blitBit x0 y row r n = r := by simp [blitBit, hc]
      rw [hb]
      refine ⟨fun x' y' hx' => ?_, ?_⟩
      · rw [ihp x' y' hx']
        have e : (x' < x0 + (n + 1)) ↔ (x' < x0 + n) := by omega
        simp [e]
      · rw [ihf]
        constructor <;> rintro (h | ⟨x', h1, h2, h3, h4⟩)
        · exact .inl h
        · exact .inr ⟨x', h1, h2, by omega, h4⟩
        · exact .inl h
        · exact .inr ⟨x', h1, h2, by omega, h4⟩
    · have hx : x0 + n < 64 := by omega
      have hold : Grid.pixel r.1 (x0 + n) y = Grid.pixel g (x0 + n) y := by
        rw [ihp _ _ hx]; simp
      have hb : blitBit x0 y row r n =
          (Grid.setPixel r.1 (x0 + n) y (Grid.pixel g (x0 + n) y ^^ spriteBit row n),
            r.2 || (spriteBit row n && Grid.pixel g (x0 + n) y)) := by
        simp [blitBit, hc, hold]
      rw [hb]
      refine ⟨fun x' y' hx' => ?_, ?_⟩
      · simp only
        rw [Grid.pixel_setPixel _ hx hy, ihp x' y' hx']
        by_cases h1 : x' = x0 + n ∧ y' = y
        · obtain ⟨rfl, rfl⟩ := h1
          simp
        · rw [if_neg h1]
          by_cases h2 : y' = y
          · have h3 : x' ≠ x0 + n := fun e => h1 ⟨e, h2⟩
            have e : (x' < x0 + (n + 1)) ↔ (x' < x0 + n) := by omega
            simp [e]
          · simp [h2]
      · simp only [Bool.or_eq_true, Bool.and_eq_true, ihf]
        constructor
        · rintro ((h | ⟨x', h1, h2, h3, h4⟩) | ⟨h1, h2⟩)
          · exact .inl h
          · exact .inr ⟨x', h1, h2, by omega, h4⟩
          · exact .inr ⟨x0 + n, hx, by omega, by omega, by simpa using h1, h2⟩
        · rintro (h | ⟨x', h1, h2, h3, h4, h5⟩)
          · exact .inl (.inl h)
          · by_cases hxn : x' = x0 + n
            · subst hxn
              exact .inr ⟨by simpa using h4, h5⟩
            · exact .inl (.inr ⟨x', h1, h2, by omega, h4, h5⟩)

/-- What drawing one row does. -/
theorem blitRow_spec (x0 y : Nat) (row : Byte) (hy : y < 32) (g : Grid) (hit : Bool) :
    (∀ x' y', x' < 64 → Grid.pixel (blitRow x0 y row (g, hit)).1 x' y' =
      (Grid.pixel g x' y' ^^ (decide (y' = y) && rowCovers x0 row x'))) ∧
    ((blitRow x0 y row (g, hit)).2 = true ↔
      hit = true ∨ ∃ x', x' < 64 ∧ rowCovers x0 row x' = true ∧ Grid.pixel g x' y = true) := by
  obtain ⟨h1, h2⟩ := blitBits_spec x0 y row hy g hit 8
  refine ⟨h1, h2.trans ?_⟩
  simp only [rowCovers, Bool.and_eq_true, decide_eq_true_eq, and_assoc]

/-- Whether the sprite `rows` drawn from column `x0` and row `y0` has a bit 1 at `(x, y)`. -/
def spriteCovers (x0 y0 : Nat) (rows : List Byte) (x y : Nat) : Bool :=
  decide (y0 ≤ y) && (match rows[y - y0]? with | some row => rowCovers x0 row x | none => false)

theorem spriteCovers_cons (x0 y0 : Nat) (row : Byte) (rest : List Byte) (x y : Nat) :
    spriteCovers x0 y0 (row :: rest) x y =
      ((decide (y = y0) && rowCovers x0 row x) ^^ spriteCovers x0 (y0 + 1) rest x y) := by
  unfold spriteCovers
  rcases Nat.lt_trichotomy y y0 with h | h | h
  · have h1 : ¬ y0 ≤ y := by omega
    have h2 : ¬ y0 + 1 ≤ y := by omega
    have h3 : y ≠ y0 := by omega
    simp [h1, h2, h3]
  · subst h
    simp
  · have h1 : y0 ≤ y := by omega
    have h2 : y0 + 1 ≤ y := by omega
    have h3 : y ≠ y0 := by omega
    have h4 : y - y0 = (y - (y0 + 1)) + 1 := by omega
    simp [h1, h2, h3, h4]

/-- What drawing a sprite does: inside the display the covered pixels are toggled and no other; the flag records whether a
covered pixel was on (41_display.md R142). -/
theorem blitRows_spec (x0 y0 : Nat) (rows : List Byte) (g : Grid) (hit : Bool) :
    (∀ x y, x < 64 → y < 32 → Grid.pixel (blitRows x0 y0 rows (g, hit)).1 x y =
      (Grid.pixel g x y ^^ spriteCovers x0 y0 rows x y)) ∧
    ((blitRows x0 y0 rows (g, hit)).2 = true ↔
      hit = true ∨ ∃ x y, x < 64 ∧ y < 32 ∧ spriteCovers x0 y0 rows x y = true ∧ Grid.pixel g x y = true) := by
  induction rows generalizing y0 g hit with
  | nil => simp [blitRows, spriteCovers]
  | cons row rest ih =>
    unfold blitRows
    by_cases hy : y0 ≥ 32
    · rw [if_pos hy]
      have hn : ∀ x y, y < 32 → spriteCovers x0 y0 (row :: rest) x y = false := by
        intro x y hy'
        have : ¬ y0 ≤ y := by omega
        simp [spriteCovers, this]
      refine ⟨fun x y _ hy' => by simp [hn x y hy'], ?_⟩
      constructor
      · exact .inl
      · rintro (h | ⟨x, y, _, hy', hc, _⟩)
        · exact h
        · rw [hn x y hy'] at hc; cases hc
    · rw [if_neg hy]
      have hy' : y0 < 32 := by omega
      obtain ⟨r1, r2⟩ := blitRow_spec x0 y0 row hy' g hit
      obtain ⟨i1, i2⟩ := ih (y0 + 1) (blitRow x0 y0 row (g, hit)).1 (blitRow x0 y0 row (g, hit)).2
      refine ⟨fun x y hx hy' => ?_, ?_⟩
      · rw [i1 x y hx hy', r1 x y hx, spriteCovers_cons, Bool.xor_assoc]
      · rw [i2, r2]
        constructor
        · rintro ((h | ⟨x, hx, hc, hp⟩) | ⟨x, y, hx, hy2, hc, hp⟩)
          · exact .inl h
          · refine .inr ⟨x, y0, hx, hy', ?_, hp⟩
            simp [spriteCovers, hc]
          · have hge : y0 + 1 ≤ y := by
              by_contra hlt
              simp [spriteCovers, hlt] at hc
            have hne : y ≠ y0 := by omega
            refine .inr ⟨x, y, hx, hy2, ?_, ?_⟩
            · rw [spriteCovers_cons]; simp [hne, hc]
            · rw [r1 x y hx] at hp; simpa [hne] using hp
        · rintro (h | ⟨x, y, hx, hy2, hc, hp⟩)
          · exact .inl (.inl h)
          · by_cases hne : y = y0
            · subst hne
              refine .inl (.inr ⟨x, hx, ?_, hp⟩)
              simpa [spriteCovers] using hc
            · rw [spriteCovers_cons] at hc
              refine .inr ⟨x, y, hx, hy2, by simpa [hne] using hc, ?_⟩
              rw [r1 x y hx]; simpa [hne] using hp

end Sys2Proof.Machine
end

