-- ==== Sys2Proof/Laws/PerInstr.lean ====
section
/-! SUPPORT. Statements for all instructions, one lemma per constructor. -/

namespace Sys2Proof.Laws.EncodesItsRow

/-- The word of the instruction matches the row of 30_encoding.md R100 the instruction belongs to. -/
def Statement (i : Instr) : Prop := ∀ r, i.row = some r → r.matchesWord (encodeWord i) = true

theorem of_row {i : Instr} {r : OpcodeRow} (hr : i.row = some r) (h : encodeWord i &&& r.mask = r.value) : Statement i := by
  intro r' hr'
  obtain rfl : r = r' := by simpa [hr] using hr'
  simpa [OpcodeRow.matchesWord] using h

theorem formatNnn_row (m : Nibble) (nnn : Addr12) : formatNnn m nnn &&& 0xF000 = formatNnn m 0 := by
  rw [show (0xF000 : Word) = formatNnn 0xF 0 by decide, formatNnn_and]
  congr 1
  · exact BitVec.and_allOnes
  · simp

theorem formatXnn_row (m x : Nibble) (nn : Byte) : formatXnn m x nn &&& 0xF000 = formatXnn m 0 0 := by
  rw [show (0xF000 : Word) = formatXnn 0xF 0 0 by decide, formatXnn_and]
  congr 1
  · exact BitVec.and_allOnes
  · simp
  · simp

theorem formatXff_row (m x : Nibble) (f : Byte) : formatXnn m x f &&& 0xF0FF = formatXnn m 0 f := by
  rw [show (0xF0FF : Word) = formatXnn 0xF 0 0xFF by decide, formatXnn_and]
  congr 1
  · exact BitVec.and_allOnes
  · simp
  · exact BitVec.and_allOnes

theorem formatXyf_row (m x y f : Nibble) : formatXyn m x y f &&& 0xF00F = formatXyn m 0 0 f := by
  rw [show (0xF00F : Word) = formatXyn 0xF 0 0 0xF by decide, formatXyn_and]
  congr 1
  · exact BitVec.and_allOnes
  · simp
  · simp
  · exact BitVec.and_allOnes

theorem formatXyn_row (m x y n : Nibble) : formatXyn m x y n &&& 0xF000 = formatXyn m 0 0 0 := by
  rw [show (0xF000 : Word) = formatXyn 0xF 0 0 0 by decide, formatXyn_and]
  congr 1
  · exact BitVec.and_allOnes
  · simp
  · simp
  · simp

theorem cls : Statement .cls := of_row rfl (by decide)
theorem ret : Statement .ret := of_row rfl (by decide)
theorem jpNnn (nnn : Addr12) : Statement (.jpNnn nnn) := of_row rfl ((formatNnn_row _ _).trans (by decide))
theorem callNnn (nnn : Addr12) : Statement (.callNnn nnn) := of_row rfl ((formatNnn_row _ _).trans (by decide))
theorem seVxNn (x : Nibble) (nn : Byte) : Statement (.seVxNn x nn) := of_row rfl ((formatXnn_row _ _ _).trans (by decide))
theorem sneVxNn (x : Nibble) (nn : Byte) : Statement (.sneVxNn x nn) := of_row rfl ((formatXnn_row _ _ _).trans (by decide))
theorem seVxVy (x y : Nibble) : Statement (.seVxVy x y) := of_row rfl ((formatXyf_row _ _ _ _).trans (by decide))
theorem ldVxNn (x : Nibble) (nn : Byte) : Statement (.ldVxNn x nn) := of_row rfl ((formatXnn_row _ _ _).trans (by decide))
theorem addVxNn (x : Nibble) (nn : Byte) : Statement (.addVxNn x nn) := of_row rfl ((formatXnn_row _ _ _).trans (by decide))
theorem ldVxVy (x y : Nibble) : Statement (.ldVxVy x y) := of_row rfl ((formatXyf_row _ _ _ _).trans (by decide))
theorem orVxVy (x y : Nibble) : Statement (.orVxVy x y) := of_row rfl ((formatXyf_row _ _ _ _).trans (by decide))
theorem andVxVy (x y : Nibble) : Statement (.andVxVy x y) := of_row rfl ((formatXyf_row _ _ _ _).trans (by decide))
theorem xorVxVy (x y : Nibble) : Statement (.xorVxVy x y) := of_row rfl ((formatXyf_row _ _ _ _).trans (by decide))
theorem addVxVy (x y : Nibble) : Statement (.addVxVy x y) := of_row rfl ((formatXyf_row _ _ _ _).trans (by decide))
theorem subVxVy (x y : Nibble) : Statement (.subVxVy x y) := of_row rfl ((formatXyf_row _ _ _ _).trans (by decide))
theorem shrVxVy (x y : Nibble) : Statement (.shrVxVy x y) := of_row rfl ((formatXyf_row _ _ _ _).trans (by decide))
theorem subnVxVy (x y : Nibble) : Statement (.subnVxVy x y) := of_row rfl ((formatXyf_row _ _ _ _).trans (by decide))
theorem shlVxVy (x y : Nibble) : Statement (.shlVxVy x y) := of_row rfl ((formatXyf_row _ _ _ _).trans (by decide))
theorem sneVxVy (x y : Nibble) : Statement (.sneVxVy x y) := of_row rfl ((formatXyf_row _ _ _ _).trans (by decide))
theorem ldINnn (nnn : Addr12) : Statement (.ldINnn nnn) := of_row rfl ((formatNnn_row _ _).trans (by decide))
theorem jpV0Nnn (nnn : Addr12) : Statement (.jpV0Nnn nnn) := of_row rfl ((formatNnn_row _ _).trans (by decide))
theorem rndVxNn (x : Nibble) (nn : Byte) : Statement (.rndVxNn x nn) := of_row rfl ((formatXnn_row _ _ _).trans (by decide))
theorem drwVxVyN (x y n : Nibble) : Statement (.drwVxVyN x y n) := of_row rfl ((formatXyn_row _ _ _ _).trans (by decide))
theorem skpVx (x : Nibble) : Statement (.skpVx x) := of_row rfl ((formatXff_row _ _ _).trans (by decide))
theorem sknpVx (x : Nibble) : Statement (.sknpVx x) := of_row rfl ((formatXff_row _ _ _).trans (by decide))
theorem ldVxDt (x : Nibble) : Statement (.ldVxDt x) := of_row rfl ((formatXff_row _ _ _).trans (by decide))
theorem ldVxK (x : Nibble) : Statement (.ldVxK x) := of_row rfl ((formatXff_row _ _ _).trans (by decide))
theorem ldDtVx (x : Nibble) : Statement (.ldDtVx x) := of_row rfl ((formatXff_row _ _ _).trans (by decide))
theorem ldStVx (x : Nibble) : Statement (.ldStVx x) := of_row rfl ((formatXff_row _ _ _).trans (by decide))
theorem addIVx (x : Nibble) : Statement (.addIVx x) := of_row rfl ((formatXff_row _ _ _).trans (by decide))
theorem ldFVx (x : Nibble) : Statement (.ldFVx x) := of_row rfl ((formatXff_row _ _ _).trans (by decide))
theorem ldBVx (x : Nibble) : Statement (.ldBVx x) := of_row rfl ((formatXff_row _ _ _).trans (by decide))
theorem ldIndVx (x : Nibble) : Statement (.ldIndVx x) := of_row rfl ((formatXff_row _ _ _).trans (by decide))
theorem ldVxInd (x : Nibble) : Statement (.ldVxInd x) := of_row rfl ((formatXff_row _ _ _).trans (by decide))
theorem unknown (op : Word) : Statement (.unknown op) := fun _ h => nomatch h

end Sys2Proof.Laws.EncodesItsRow
end

