-- ==== Sys2Proof/Laws/Registers.lean ====
section
/-! SUPPORT. The laws of the data registers, the return stack and the key latch: what a read after a write gives, and what the
bulk transfer of FX65 leaves. -/

namespace Sys2Proof.Machine

/-- A register read after a register write. -/
theorem readV_writeV (s : State) (x y : Nibble) (b : Byte) :
    readV (writeV s x b) y = if x = y then b else readV s y := by
  unfold readV
  rw [writeV_v, Vector.getElem_set]
  by_cases h : x = y
  · simp [h]
  · have : x.toNat ≠ y.toNat := fun e => h (BitVec.eq_of_toNat_eq e)
    simp [h, this]

@[simp] theorem readV_writeV_self (s : State) (x : Nibble) (b : Byte) : readV (writeV s x b) x = b := by
  simp [readV_writeV]

theorem readV_writeV_ne {x y : Nibble} (s : State) (b : Byte) (h : x ≠ y) : readV (writeV s x b) y = readV s y := by
  simp [readV_writeV, h]

/-- Reading a register depends on the register file alone. -/
theorem readV_congr {s t : State} (h : t.v = s.v) (x : Nibble) : readV t x = readV s x := by simp [readV, h]

/-- Register files that read alike are the same. -/
theorem v_ext {s t : State} (h : ∀ x, readV t x = readV s x) : t.v = s.v := by
  apply Vector.ext
  intro k hk
  have := h (BitVec.ofNat 4 k)
  simpa [readV, Nat.mod_eq_of_lt hk] using this

/-- `VF` after a result and its flag is the flag, whatever the destination (43_load_alu.md R172). -/
@[simp] theorem readV_writeResultThenFlag_vf (s : State) (x : Nibble) (r f : Byte) :
    readV (writeResultThenFlag s x r f) 15#4 = f := by simp [writeResultThenFlag]

/-- The destination, when it is not `VF`, holds the result. -/
theorem readV_writeResultThenFlag_dest {x : Nibble} (s : State) (r f : Byte) (h : x ≠ 15) :
    readV (writeResultThenFlag s x r f) x = r := by
  rw [writeResultThenFlag, readV_writeV_ne _ _ (Ne.symm h), readV_writeV_self]

/-- Every other register is as before. -/
theorem readV_writeResultThenFlag_other {x y : Nibble} (s : State) (r f : Byte) (hy : y ≠ x) (hf : y ≠ 15) :
    readV (writeResultThenFlag s x r f) y = readV s y := by
  rw [writeResultThenFlag, readV_writeV_ne _ _ (Ne.symm hf), readV_writeV_ne _ _ (Ne.symm hy)]

/-- A result with its flag changes the register file and nothing else. -/
theorem writeResultThenFlag_frame (s : State) (x : Nibble) (r f : Byte) :
    writeResultThenFlag s x r f = { s with v := (writeResultThenFlag s x r f).v } := rfl

section writeResultThenFlagFields
variable (s : State) (x : Nibble) (r f : Byte)
@[simp] theorem writeResultThenFlag_mem : (writeResultThenFlag s x r f).mem = s.mem := rfl
@[simp] theorem writeResultThenFlag_i : (writeResultThenFlag s x r f).i = s.i := rfl
@[simp] theorem writeResultThenFlag_pc : (writeResultThenFlag s x r f).pc = s.pc := rfl
@[simp] theorem writeResultThenFlag_stack : (writeResultThenFlag s x r f).stack = s.stack := rfl
@[simp] theorem writeResultThenFlag_sp : (writeResultThenFlag s x r f).sp = s.sp := rfl
@[simp] theorem writeResultThenFlag_disp : (writeResultThenFlag s x r f).disp = s.disp := rfl
@[simp] theorem writeResultThenFlag_keys : (writeResultThenFlag s x r f).keys = s.keys := rfl
@[simp] theorem writeResultThenFlag_dt : (writeResultThenFlag s x r f).dt = s.dt := rfl
@[simp] theorem writeResultThenFlag_st : (writeResultThenFlag s x r f).st = s.st := rfl
@[simp] theorem writeResultThenFlag_run : (writeResultThenFlag s x r f).run = s.run := rfl
@[simp] theorem writeResultThenFlag_inst : (writeResultThenFlag s x r f).inst = s.inst := rfl
@[simp] theorem writeResultThenFlag_wk : (writeResultThenFlag s x r f).wk = s.wk := rfl
@[simp] theorem writeResultThenFlag_tone : (writeResultThenFlag s x r f).tone = s.tone := rfl
@[simp] theorem writeResultThenFlag_fault : (writeResultThenFlag s x r f).fault = s.fault := rfl
@[simp] theorem writeResultThenFlag_batchLeft : (writeResultThenFlag s x r f).batchLeft = s.batchLeft := rfl
@[simp] theorem writeResultThenFlag_pend : (writeResultThenFlag s x r f).pend = s.pend := rfl
@[simp] theorem writeResultThenFlag_resetIn : (writeResultThenFlag s x r f).resetIn = s.resetIn := rfl
@[simp] theorem writeResultThenFlag_rand8 : (writeResultThenFlag s x r f).rand8 = s.rand8 := rfl
@[simp] theorem writeResultThenFlag_displayOut : (writeResultThenFlag s x r f).displayOut = s.displayOut := rfl
@[simp] theorem writeResultThenFlag_debugOut : (writeResultThenFlag s x r f).debugOut = s.debugOut := rfl
@[simp] theorem writeResultThenFlag_params : (writeResultThenFlag s x r f).params = s.params := rfl
@[simp] theorem writeResultThenFlag_phase : (writeResultThenFlag s x r f).phase = s.phase := rfl
@[simp] theorem writeResultThenFlag_frames : (writeResultThenFlag s x r f).frames = s.frames := rfl
@[simp] theorem writeResultThenFlag_randTaken : (writeResultThenFlag s x r f).randTaken = s.randTaken := rfl
end writeResultThenFlagFields

/-- The bulk load changes the register file and nothing else. -/
theorem writeVFrom_frame (s : State) (k : Nat) (bs : List Byte) :
    writeVFrom s k bs = { s with v := (writeVFrom s k bs).v } := by
  induction bs generalizing s k with
  | nil => rfl
  | cons b rest ih =>
    unfold writeVFrom
    conv_lhs => rw [ih]
    rfl

/-- The registers after a bulk load of `bs` from register `k`: those reached hold their byte, the others are as before. -/
theorem readV_writeVFrom (s : State) (k : Nat) (bs : List Byte) (hlen : k + bs.length ≤ 16) (y : Nibble) :
    readV (writeVFrom s k bs) y =
      if h : k ≤ y.toNat ∧ y.toNat - k < bs.length then bs[y.toNat - k]'h.2 else readV s y := by
  induction bs generalizing s k with
  | nil => simp [writeVFrom]
  | cons b rest ih =>
    simp only [List.length_cons] at hlen ⊢
    unfold writeVFrom
    rw [ih _ _ (by omega)]
    by_cases hk : y.toNat = k
    · have hy : BitVec.ofNat 4 k = y := by rw [← hk]; simp
      have hn : ¬ (k + 1 ≤ y.toNat ∧ y.toNat - (k + 1) < rest.length) := by omega
      have hp : k ≤ y.toNat ∧ y.toNat - k < rest.length + 1 := by omega
      rw [dif_neg hn, dif_pos hp, hy, readV_writeV_self]
      simp [hk]
    · have hy : BitVec.ofNat 4 k ≠ y := by
        intro e; apply hk; rw [← e]; simp; omega
      by_cases hp : k + 1 ≤ y.toNat ∧ y.toNat - (k + 1) < rest.length
      · have hq : k ≤ y.toNat ∧ y.toNat - k < rest.length + 1 := by omega
        rw [dif_pos hp, dif_pos hq]
        have : y.toNat - k = (y.toNat - (k + 1)) + 1 := by omega
        simp [this]
      · have hq : ¬ (k ≤ y.toNat ∧ y.toNat - k < rest.length + 1) := by omega
        rw [dif_neg hp, dif_neg hq, readV_writeV_ne _ _ hy]

theorem readVUpTo_length (s : State) (x : Nibble) : (readVUpTo s x).length = x.toNat + 1 := by simp [readVUpTo]

theorem readVUpTo_getElem {s : State} {x : Nibble} {k : Nat} (hk : k < (readVUpTo s x).length) :
    (readVUpTo s x)[k] = readV s (BitVec.ofNat 4 k) := by simp [readVUpTo]

/-! ## The return stack -/

/-- An entry after a push below the top of the stack's 12: the pushed one is `pc`, the others are as before. -/
theorem stackEntry_pushPc (s : State) (k : Nat) (h : s.sp.val < 12) :
    stackEntry (pushPc s) k = if k = s.sp.val then s.pc else stackEntry s k := by
  unfold stackEntry
  rw [pushPc_stack]
  by_cases hk : k = s.sp.val
  · simp [hk, h]
  · simp [hk, Ne.symm hk]

theorem pushPc_sp_val (s : State) (h : s.sp.val < 12) : (pushPc s).sp.val = s.sp.val + 1 := by
  rw [pushPc_sp, Fin.val_add_one_of_lt]
  exact Fin.lt_def.mpr (by simpa using h)

theorem popPc_sp_val (s : State) (h : 0 < s.sp.val) : (popPc s).sp.val = s.sp.val - 1 := by
  rw [popPc_sp, Fin.val_sub_one_of_ne_zero]
  intro e
  simp [e] at h

/-! ## The key latch -/

/-- A key's bit after a key event (60_exceptions.md R260). -/
theorem keyHeld_writeKey (s : State) (k j : Nibble) (b : Bool) :
    keyHeld (writeKey s k b) j = if k = j then b else keyHeld s j := by
  unfold keyHeld
  rw [writeKey_keys, Vector.getElem_set]
  by_cases h : k = j
  · simp [h]
  · have : k.toNat ≠ j.toNat := fun e => h (BitVec.eq_of_toNat_eq e)
    simp [h, this]

end Sys2Proof.Machine
end

