-- ==== Sys2Proof/Laws/Step.lean ====
section
/-! SUPPORT. The updates of the instruction cycle and of the frame field by field, what a drain can change, and the one inversion of
`step`: which of the frame's steps it was. -/

namespace Sys2Proof.Machine

section setPhaseFields
variable (s : State) (p : Phase)
@[simp] theorem setPhase_mem : (setPhase s p).mem = s.mem := rfl
@[simp] theorem setPhase_v : (setPhase s p).v = s.v := rfl
@[simp] theorem setPhase_i : (setPhase s p).i = s.i := rfl
@[simp] theorem setPhase_pc : (setPhase s p).pc = s.pc := rfl
@[simp] theorem setPhase_stack : (setPhase s p).stack = s.stack := rfl
@[simp] theorem setPhase_sp : (setPhase s p).sp = s.sp := rfl
@[simp] theorem setPhase_disp : (setPhase s p).disp = s.disp := rfl
@[simp] theorem setPhase_keys : (setPhase s p).keys = s.keys := rfl
@[simp] theorem setPhase_dt : (setPhase s p).dt = s.dt := rfl
@[simp] theorem setPhase_st : (setPhase s p).st = s.st := rfl
@[simp] theorem setPhase_run : (setPhase s p).run = s.run := rfl
@[simp] theorem setPhase_inst : (setPhase s p).inst = s.inst := rfl
@[simp] theorem setPhase_wk : (setPhase s p).wk = s.wk := rfl
@[simp] theorem setPhase_tone : (setPhase s p).tone = s.tone := rfl
@[simp] theorem setPhase_fault : (setPhase s p).fault = s.fault := rfl
@[simp] theorem setPhase_batchLeft : (setPhase s p).batchLeft = s.batchLeft := rfl
@[simp] theorem setPhase_pend : (setPhase s p).pend = s.pend := rfl
@[simp] theorem setPhase_resetIn : (setPhase s p).resetIn = s.resetIn := rfl
@[simp] theorem setPhase_rand8 : (setPhase s p).rand8 = s.rand8 := rfl
@[simp] theorem setPhase_displayOut : (setPhase s p).displayOut = s.displayOut := rfl
@[simp] theorem setPhase_debugOut : (setPhase s p).debugOut = s.debugOut := rfl
@[simp] theorem setPhase_params : (setPhase s p).params = s.params := rfl
@[simp] theorem setPhase_phase : (setPhase s p).phase = p := rfl
@[simp] theorem setPhase_frames : (setPhase s p).frames = s.frames := rfl
@[simp] theorem setPhase_randTaken : (setPhase s p).randTaken = s.randTaken := rfl
end setPhaseFields

section writeRunFields
variable (s : State) (r : RunState)
@[simp] theorem writeRun_mem : (writeRun s r).mem = s.mem := rfl
@[simp] theorem writeRun_v : (writeRun s r).v = s.v := rfl
@[simp] theorem writeRun_i : (writeRun s r).i = s.i := rfl
@[simp] theorem writeRun_pc : (writeRun s r).pc = s.pc := rfl
@[simp] theorem writeRun_stack : (writeRun s r).stack = s.stack := rfl
@[simp] theorem writeRun_sp : (writeRun s r).sp = s.sp := rfl
@[simp] theorem writeRun_disp : (writeRun s r).disp = s.disp := rfl
@[simp] theorem writeRun_keys : (writeRun s r).keys = s.keys := rfl
@[simp] theorem writeRun_dt : (writeRun s r).dt = s.dt := rfl
@[simp] theorem writeRun_st : (writeRun s r).st = s.st := rfl
@[simp] theorem writeRun_run : (writeRun s r).run = r := rfl
@[simp] theorem writeRun_inst : (writeRun s r).inst = s.inst := rfl
@[simp] theorem writeRun_wk : (writeRun s r).wk = s.wk := rfl
@[simp] theorem writeRun_tone : (writeRun s r).tone = s.tone := rfl
@[simp] theorem writeRun_fault : (writeRun s r).fault = s.fault := rfl
@[simp] theorem writeRun_batchLeft : (writeRun s r).batchLeft = s.batchLeft := rfl
@[simp] theorem writeRun_pend : (writeRun s r).pend = s.pend := rfl
@[simp] theorem writeRun_resetIn : (writeRun s r).resetIn = s.resetIn := rfl
@[simp] theorem writeRun_rand8 : (writeRun s r).rand8 = s.rand8 := rfl
@[simp] theorem writeRun_displayOut : (writeRun s r).displayOut = s.displayOut := rfl
@[simp] theorem writeRun_debugOut : (writeRun s r).debugOut = s.debugOut := rfl
@[simp] theorem writeRun_params : (writeRun s r).params = s.params := rfl
@[simp] theorem writeRun_phase : (writeRun s r).phase = s.phase := rfl
@[simp] theorem writeRun_frames : (writeRun s r).frames = s.frames := rfl
@[simp] theorem writeRun_randTaken : (writeRun s r).randTaken = s.randTaken := rfl
end writeRunFields

section startBatchFields
variable (s : State)
@[simp] theorem startBatch_mem : (startBatch s).mem = s.mem := rfl
@[simp] theorem startBatch_v : (startBatch s).v = s.v := rfl
@[simp] theorem startBatch_i : (startBatch s).i = s.i := rfl
@[simp] theorem startBatch_pc : (startBatch s).pc = s.pc := rfl
@[simp] theorem startBatch_stack : (startBatch s).stack = s.stack := rfl
@[simp] theorem startBatch_sp : (startBatch s).sp = s.sp := rfl
@[simp] theorem startBatch_disp : (startBatch s).disp = s.disp := rfl
@[simp] theorem startBatch_keys : (startBatch s).keys = s.keys := rfl
@[simp] theorem startBatch_dt : (startBatch s).dt = s.dt := rfl
@[simp] theorem startBatch_st : (startBatch s).st = s.st := rfl
@[simp] theorem startBatch_run : (startBatch s).run = s.run := rfl
@[simp] theorem startBatch_inst : (startBatch s).inst = s.inst := rfl
@[simp] theorem startBatch_wk : (startBatch s).wk = s.wk := rfl
@[simp] theorem startBatch_tone : (startBatch s).tone = s.tone := rfl
@[simp] theorem startBatch_fault : (startBatch s).fault = s.fault := rfl
@[simp] theorem startBatch_batchLeft : (startBatch s).batchLeft = ipf s.params := rfl
@[simp] theorem startBatch_pend : (startBatch s).pend = s.pend := rfl
@[simp] theorem startBatch_resetIn : (startBatch s).resetIn = s.resetIn := rfl
@[simp] theorem startBatch_rand8 : (startBatch s).rand8 = s.rand8 := rfl
@[simp] theorem startBatch_displayOut : (startBatch s).displayOut = s.displayOut := rfl
@[simp] theorem startBatch_debugOut : (startBatch s).debugOut = s.debugOut := rfl
@[simp] theorem startBatch_params : (startBatch s).params = s.params := rfl
@[simp] theorem startBatch_phase : (startBatch s).phase = s.phase := rfl
@[simp] theorem startBatch_frames : (startBatch s).frames = s.frames := rfl
@[simp] theorem startBatch_randTaken : (startBatch s).randTaken = s.randTaken := rfl
end startBatchFields

section advancePcFields
variable (s : State)
@[simp] theorem advancePc_mem : (advancePc s).mem = s.mem := rfl
@[simp] theorem advancePc_v : (advancePc s).v = s.v := rfl
@[simp] theorem advancePc_i : (advancePc s).i = s.i := rfl
@[simp] theorem advancePc_pc : (advancePc s).pc = s.pc + 2 := rfl
@[simp] theorem advancePc_stack : (advancePc s).stack = s.stack := rfl
@[simp] theorem advancePc_sp : (advancePc s).sp = s.sp := rfl
@[simp] theorem advancePc_disp : (advancePc s).disp = s.disp := rfl
@[simp] theorem advancePc_keys : (advancePc s).keys = s.keys := rfl
@[simp] theorem advancePc_dt : (advancePc s).dt = s.dt := rfl
@[simp] theorem advancePc_st : (advancePc s).st = s.st := rfl
@[simp] theorem advancePc_run : (advancePc s).run = s.run := rfl
@[simp] theorem advancePc_inst : (advancePc s).inst = s.inst := rfl
@[simp] theorem advancePc_wk : (advancePc s).wk = s.wk := rfl
@[simp] theorem advancePc_tone : (advancePc s).tone = s.tone := rfl
@[simp] theorem advancePc_fault : (advancePc s).fault = s.fault := rfl
@[simp] theorem advancePc_batchLeft : (advancePc s).batchLeft = s.batchLeft := rfl
@[simp] theorem advancePc_pend : (advancePc s).pend = s.pend := rfl
@[simp] theorem advancePc_resetIn : (advancePc s).resetIn = s.resetIn := rfl
@[simp] theorem advancePc_rand8 : (advancePc s).rand8 = s.rand8 := rfl
@[simp] theorem advancePc_displayOut : (advancePc s).displayOut = s.displayOut := rfl
@[simp] theorem advancePc_debugOut : (advancePc s).debugOut = s.debugOut := rfl
@[simp] theorem advancePc_params : (advancePc s).params = s.params := rfl
@[simp] theorem advancePc_phase : (advancePc s).phase = s.phase := rfl
@[simp] theorem advancePc_frames : (advancePc s).frames = s.frames := rfl
@[simp] theorem advancePc_randTaken : (advancePc s).randTaken = s.randTaken := rfl
end advancePcFields

section latchInstFields
variable (s : State) (op : Word)
@[simp] theorem latchInst_mem : (latchInst s op).mem = s.mem := rfl
@[simp] theorem latchInst_v : (latchInst s op).v = s.v := rfl
@[simp] theorem latchInst_i : (latchInst s op).i = s.i := rfl
@[simp] theorem latchInst_pc : (latchInst s op).pc = s.pc := rfl
@[simp] theorem latchInst_stack : (latchInst s op).stack = s.stack := rfl
@[simp] theorem latchInst_sp : (latchInst s op).sp = s.sp := rfl
@[simp] theorem latchInst_disp : (latchInst s op).disp = s.disp := rfl
@[simp] theorem latchInst_keys : (latchInst s op).keys = s.keys := rfl
@[simp] theorem latchInst_dt : (latchInst s op).dt = s.dt := rfl
@[simp] theorem latchInst_st : (latchInst s op).st = s.st := rfl
@[simp] theorem latchInst_run : (latchInst s op).run = s.run := rfl
@[simp] theorem latchInst_inst : (latchInst s op).inst = ⟨op, fieldNnn op, fieldNn op, fieldN op, fieldX op, fieldY op⟩ := rfl
@[simp] theorem latchInst_wk : (latchInst s op).wk = s.wk := rfl
@[simp] theorem latchInst_tone : (latchInst s op).tone = s.tone := rfl
@[simp] theorem latchInst_fault : (latchInst s op).fault = s.fault := rfl
@[simp] theorem latchInst_batchLeft : (latchInst s op).batchLeft = s.batchLeft := rfl
@[simp] theorem latchInst_pend : (latchInst s op).pend = s.pend := rfl
@[simp] theorem latchInst_resetIn : (latchInst s op).resetIn = s.resetIn := rfl
@[simp] theorem latchInst_rand8 : (latchInst s op).rand8 = s.rand8 := rfl
@[simp] theorem latchInst_displayOut : (latchInst s op).displayOut = s.displayOut := rfl
@[simp] theorem latchInst_debugOut : (latchInst s op).debugOut = s.debugOut := rfl
@[simp] theorem latchInst_params : (latchInst s op).params = s.params := rfl
@[simp] theorem latchInst_phase : (latchInst s op).phase = s.phase := rfl
@[simp] theorem latchInst_frames : (latchInst s op).frames = s.frames := rfl
@[simp] theorem latchInst_randTaken : (latchInst s op).randTaken = s.randTaken := rfl
end latchInstFields

section beginCycleFields
variable (s : State)
@[simp] theorem beginCycle_mem : (beginCycle s).mem = s.mem := rfl
@[simp] theorem beginCycle_v : (beginCycle s).v = s.v := rfl
@[simp] theorem beginCycle_i : (beginCycle s).i = s.i := rfl
@[simp] theorem beginCycle_pc : (beginCycle s).pc = s.pc + 2 := rfl
@[simp] theorem beginCycle_stack : (beginCycle s).stack = s.stack := rfl
@[simp] theorem beginCycle_sp : (beginCycle s).sp = s.sp := rfl
@[simp] theorem beginCycle_disp : (beginCycle s).disp = s.disp := rfl
@[simp] theorem beginCycle_keys : (beginCycle s).keys = s.keys := rfl
@[simp] theorem beginCycle_dt : (beginCycle s).dt = s.dt := rfl
@[simp] theorem beginCycle_st : (beginCycle s).st = s.st := rfl
@[simp] theorem beginCycle_run : (beginCycle s).run = s.run := rfl
@[simp] theorem beginCycle_inst : (beginCycle s).inst = (latchInst s (fetchWord s)).inst := rfl
@[simp] theorem beginCycle_wk : (beginCycle s).wk = s.wk := rfl
@[simp] theorem beginCycle_tone : (beginCycle s).tone = s.tone := rfl
@[simp] theorem beginCycle_fault : (beginCycle s).fault = s.fault := rfl
@[simp] theorem beginCycle_batchLeft : (beginCycle s).batchLeft = s.batchLeft := rfl
@[simp] theorem beginCycle_pend : (beginCycle s).pend = s.pend := rfl
@[simp] theorem beginCycle_resetIn : (beginCycle s).resetIn = s.resetIn := rfl
@[simp] theorem beginCycle_rand8 : (beginCycle s).rand8 = s.rand8 := rfl
@[simp] theorem beginCycle_displayOut : (beginCycle s).displayOut = s.displayOut := rfl
@[simp] theorem beginCycle_debugOut : (beginCycle s).debugOut = if s.params.debugEn then s.debugOut ++ [traceRecord s s.pc (fetchWord s)] else s.debugOut := rfl
@[simp] theorem beginCycle_params : (beginCycle s).params = s.params := rfl
@[simp] theorem beginCycle_phase : (beginCycle s).phase = s.phase := rfl
@[simp] theorem beginCycle_frames : (beginCycle s).frames = s.frames := rfl
@[simp] theorem beginCycle_randTaken : (beginCycle s).randTaken = s.randTaken := rfl
end beginCycleFields

section countCycleFields
variable (s : State)
@[simp] theorem countCycle_mem : (countCycle s).mem = s.mem := rfl
@[simp] theorem countCycle_v : (countCycle s).v = s.v := rfl
@[simp] theorem countCycle_i : (countCycle s).i = s.i := rfl
@[simp] theorem countCycle_pc : (countCycle s).pc = s.pc := rfl
@[simp] theorem countCycle_stack : (countCycle s).stack = s.stack := rfl
@[simp] theorem countCycle_sp : (countCycle s).sp = s.sp := rfl
@[simp] theorem countCycle_disp : (countCycle s).disp = s.disp := rfl
@[simp] theorem countCycle_keys : (countCycle s).keys = s.keys := rfl
@[simp] theorem countCycle_dt : (countCycle s).dt = s.dt := rfl
@[simp] theorem countCycle_st : (countCycle s).st = s.st := rfl
@[simp] theorem countCycle_run : (countCycle s).run = s.run := rfl
@[simp] theorem countCycle_inst : (countCycle s).inst = s.inst := rfl
@[simp] theorem countCycle_wk : (countCycle s).wk = s.wk := rfl
@[simp] theorem countCycle_tone : (countCycle s).tone = s.tone := rfl
@[simp] theorem countCycle_fault : (countCycle s).fault = s.fault := rfl
@[simp] theorem countCycle_batchLeft : (countCycle s).batchLeft = if s.fault = .noFault then s.batchLeft - 1 else s.batchLeft := rfl
@[simp] theorem countCycle_pend : (countCycle s).pend = s.pend := rfl
@[simp] theorem countCycle_resetIn : (countCycle s).resetIn = s.resetIn := rfl
@[simp] theorem countCycle_rand8 : (countCycle s).rand8 = s.rand8 := rfl
@[simp] theorem countCycle_displayOut : (countCycle s).displayOut = s.displayOut := rfl
@[simp] theorem countCycle_debugOut : (countCycle s).debugOut = s.debugOut := rfl
@[simp] theorem countCycle_params : (countCycle s).params = s.params := rfl
@[simp] theorem countCycle_phase : (countCycle s).phase = s.phase := rfl
@[simp] theorem countCycle_frames : (countCycle s).frames = s.frames := rfl
@[simp] theorem countCycle_randTaken : (countCycle s).randTaken = s.randTaken := rfl
end countCycleFields

section timerTickFields
variable (s : State)
@[simp] theorem timerTick_mem : (timerTick s).mem = s.mem := rfl
@[simp] theorem timerTick_v : (timerTick s).v = s.v := rfl
@[simp] theorem timerTick_i : (timerTick s).i = s.i := rfl
@[simp] theorem timerTick_pc : (timerTick s).pc = s.pc := rfl
@[simp] theorem timerTick_stack : (timerTick s).stack = s.stack := rfl
@[simp] theorem timerTick_sp : (timerTick s).sp = s.sp := rfl
@[simp] theorem timerTick_disp : (timerTick s).disp = s.disp := rfl
@[simp] theorem timerTick_keys : (timerTick s).keys = s.keys := rfl
@[simp] theorem timerTick_dt : (timerTick s).dt = if s.dt = 0 then 0 else s.dt - 1 := rfl
@[simp] theorem timerTick_st : (timerTick s).st = if s.st = 0 then 0 else s.st - 1 := rfl
@[simp] theorem timerTick_run : (timerTick s).run = s.run := rfl
@[simp] theorem timerTick_inst : (timerTick s).inst = s.inst := rfl
@[simp] theorem timerTick_wk : (timerTick s).wk = s.wk := rfl
@[simp] theorem timerTick_tone : (timerTick s).tone = decide (s.st ≠ 0) := rfl
@[simp] theorem timerTick_fault : (timerTick s).fault = s.fault := rfl
@[simp] theorem timerTick_batchLeft : (timerTick s).batchLeft = s.batchLeft := rfl
@[simp] theorem timerTick_pend : (timerTick s).pend = s.pend := rfl
@[simp] theorem timerTick_resetIn : (timerTick s).resetIn = s.resetIn := rfl
@[simp] theorem timerTick_rand8 : (timerTick s).rand8 = s.rand8 := rfl
@[simp] theorem timerTick_displayOut : (timerTick s).displayOut = s.displayOut := rfl
@[simp] theorem timerTick_debugOut : (timerTick s).debugOut = s.debugOut := rfl
@[simp] theorem timerTick_params : (timerTick s).params = s.params := rfl
@[simp] theorem timerTick_phase : (timerTick s).phase = s.phase := rfl
@[simp] theorem timerTick_frames : (timerTick s).frames = s.frames := rfl
@[simp] theorem timerTick_randTaken : (timerTick s).randTaken = s.randTaken := rfl
end timerTickFields

section presentDisplayFields
variable (s : State)
@[simp] theorem presentDisplay_mem : (presentDisplay s).mem = s.mem := rfl
@[simp] theorem presentDisplay_v : (presentDisplay s).v = s.v := rfl
@[simp] theorem presentDisplay_i : (presentDisplay s).i = s.i := rfl
@[simp] theorem presentDisplay_pc : (presentDisplay s).pc = s.pc := rfl
@[simp] theorem presentDisplay_stack : (presentDisplay s).stack = s.stack := rfl
@[simp] theorem presentDisplay_sp : (presentDisplay s).sp = s.sp := rfl
@[simp] theorem presentDisplay_disp : (presentDisplay s).disp = s.disp := rfl
@[simp] theorem presentDisplay_keys : (presentDisplay s).keys = s.keys := rfl
@[simp] theorem presentDisplay_dt : (presentDisplay s).dt = s.dt := rfl
@[simp] theorem presentDisplay_st : (presentDisplay s).st = s.st := rfl
@[simp] theorem presentDisplay_run : (presentDisplay s).run = s.run := rfl
@[simp] theorem presentDisplay_inst : (presentDisplay s).inst = s.inst := rfl
@[simp] theorem presentDisplay_wk : (presentDisplay s).wk = s.wk := rfl
@[simp] theorem presentDisplay_tone : (presentDisplay s).tone = s.tone := rfl
@[simp] theorem presentDisplay_fault : (presentDisplay s).fault = s.fault := rfl
@[simp] theorem presentDisplay_batchLeft : (presentDisplay s).batchLeft = s.batchLeft := rfl
@[simp] theorem presentDisplay_pend : (presentDisplay s).pend = s.pend := rfl
@[simp] theorem presentDisplay_resetIn : (presentDisplay s).resetIn = s.resetIn := rfl
@[simp] theorem presentDisplay_rand8 : (presentDisplay s).rand8 = s.rand8 := rfl
@[simp] theorem presentDisplay_displayOut : (presentDisplay s).displayOut = s.disp := rfl
@[simp] theorem presentDisplay_debugOut : (presentDisplay s).debugOut = s.debugOut := rfl
@[simp] theorem presentDisplay_params : (presentDisplay s).params = s.params := rfl
@[simp] theorem presentDisplay_phase : (presentDisplay s).phase = s.phase := rfl
@[simp] theorem presentDisplay_frames : (presentDisplay s).frames = s.frames := rfl
@[simp] theorem presentDisplay_randTaken : (presentDisplay s).randTaken = s.randTaken := rfl
end presentDisplayFields

section awaitFrameFields
variable (s : State)
@[simp] theorem awaitFrame_mem : (awaitFrame s).mem = s.mem := rfl
@[simp] theorem awaitFrame_v : (awaitFrame s).v = s.v := rfl
@[simp] theorem awaitFrame_i : (awaitFrame s).i = s.i := rfl
@[simp] theorem awaitFrame_pc : (awaitFrame s).pc = s.pc := rfl
@[simp] theorem awaitFrame_stack : (awaitFrame s).stack = s.stack := rfl
@[simp] theorem awaitFrame_sp : (awaitFrame s).sp = s.sp := rfl
@[simp] theorem awaitFrame_disp : (awaitFrame s).disp = s.disp := rfl
@[simp] theorem awaitFrame_keys : (awaitFrame s).keys = s.keys := rfl
@[simp] theorem awaitFrame_dt : (awaitFrame s).dt = s.dt := rfl
@[simp] theorem awaitFrame_st : (awaitFrame s).st = s.st := rfl
@[simp] theorem awaitFrame_run : (awaitFrame s).run = s.run := rfl
@[simp] theorem awaitFrame_inst : (awaitFrame s).inst = s.inst := rfl
@[simp] theorem awaitFrame_wk : (awaitFrame s).wk = s.wk := rfl
@[simp] theorem awaitFrame_tone : (awaitFrame s).tone = s.tone := rfl
@[simp] theorem awaitFrame_fault : (awaitFrame s).fault = s.fault := rfl
@[simp] theorem awaitFrame_batchLeft : (awaitFrame s).batchLeft = s.batchLeft := rfl
@[simp] theorem awaitFrame_pend : (awaitFrame s).pend = s.pend ++ Config.arrivals s.frames := rfl
@[simp] theorem awaitFrame_resetIn : (awaitFrame s).resetIn = Config.resetAt s.frames := rfl
@[simp] theorem awaitFrame_rand8 : (awaitFrame s).rand8 = s.rand8 := rfl
@[simp] theorem awaitFrame_displayOut : (awaitFrame s).displayOut = s.displayOut := rfl
@[simp] theorem awaitFrame_debugOut : (awaitFrame s).debugOut = s.debugOut := rfl
@[simp] theorem awaitFrame_params : (awaitFrame s).params = s.params := rfl
@[simp] theorem awaitFrame_phase : (awaitFrame s).phase = s.phase := rfl
@[simp] theorem awaitFrame_frames : (awaitFrame s).frames = s.frames + 1 := rfl
@[simp] theorem awaitFrame_randTaken : (awaitFrame s).randTaken = s.randTaken := rfl
end awaitFrameFields

/-- `onNext` answers a next state exactly when its argument does. -/
theorem onNext_eq_next {r : Result} {f : State → State} {t : State} :
    onNext r f = .next t ↔ ∃ u, r = .next u ∧ f u = t := by
  cases r <;> simp [onNext]

/-- A fetch depends on RAM, the font and `pc` alone. -/
theorem fetchWord_congr {s t : State} (hm : t.mem = s.mem) (hp : t.params = s.params) (hpc : t.pc = s.pc) :
    fetchWord t = fetchWord s := by
  simp [fetchWord, memRead_congr hm hp, hpc]

/-- The ports play no part in a fetch. -/
@[simp] theorem fetchWord_beginStep (s : State) : fetchWord (beginStep s) = fetchWord s := fetchWord_congr rfl rfl rfl

/-- The boot sequence answers a next state exactly for an image of at most 3584 bytes (70_reset_and_hazards.md R293). -/
theorem boot_eq_next {s t : State} : boot s = .next t ↔ s.params.rom.length ≤ Config.romMax ∧ t = bootState s := by
  unfold boot
  by_cases h : s.params.rom.length > Config.romMax
  · rw [if_pos h]
    exact ⟨fun e => (nomatch e), fun e => absurd e.1 (by omega)⟩
  · rw [if_neg h]
    exact ⟨fun e => ⟨by omega, by cases e; rfl⟩, fun e => by rw [e.2]⟩

/-! ## The drain -/

/-- An event writes `keys` and `run` only. -/
theorem applyEvent_frame (s : State) (e : Event) :
    applyEvent s e = { s with keys := (applyEvent s e).keys, run := (applyEvent s e).run } := by
  cases e <;> rfl

/-- Events write `keys` and `run` only. -/
theorem applyEvents_frame (evs : List Event) (s : State) :
    evs.foldl applyEvent s = { s with keys := (evs.foldl applyEvent s).keys, run := (evs.foldl applyEvent s).run } := by
  induction evs generalizing s with
  | nil => rfl
  | cons e rest ih =>
    simp only [List.foldl_cons]
    have h := ih (applyEvent s e)
    generalize List.foldl applyEvent (applyEvent s e) rest = r at h ⊢
    rw [h, applyEvent_frame s e]

/-- A drain empties `pend` and writes `keys` and `run`; everything else is as before (60_exceptions.md R261). -/
theorem drain_frame (s : State) :
    drain s = { s with keys := (drain s).keys, run := (drain s).run, pend := [] } := by
  have h := applyEvents_frame s.pend s
  unfold drain
  generalize s.pend.foldl applyEvent s = r at h ⊢
  rw [h]

/-! ## The inversion of `step` -/

/-- Every way `step` answers a next state. -/
theorem step_cases {s t : State} (h : step s = .next t) :
    (s.phase = .stopped ∧ t = s) ∨
    (s.phase ≠ .stopped ∧ s.resetIn = some 0 ∧ s.params.rom.length ≤ Config.romMax ∧ t = bootState (beginStep s)) ∨
    (s.resetIn ≠ some 0 ∧
      ((s.phase = .pad ∧ t = setPhase (awaitFrame (beginStep s)) .input) ∨
       (s.phase = .input ∧ t = setPhase (drain (beginStep s)) .execute) ∨
       (s.phase = .execute ∧ s.run = .quit ∧ t = setPhase (beginStep s) .stopped) ∨
       (s.phase = .execute ∧ s.run = .restart ∧ s.params.rom.length ≤ Config.romMax ∧ t = bootState (beginStep s)) ∨
       (s.phase = .execute ∧ (s.run = .paused ∨ (s.run = .running ∧ s.fault ≠ .noFault)) ∧
         t = setPhase (beginStep s) .tick) ∨
       (s.phase = .execute ∧ s.run = .running ∧ s.fault = .noFault ∧
         t = setPhase (startBatch (beginStep s)) .batch) ∨
       (s.phase = .batch ∧ s.run = .running ∧ s.fault = .noFault ∧ 0 < s.batchLeft ∧
         ∃ u, exec (decodeWord (fetchWord s)) (beginCycle (beginStep s)) = .next u ∧ t = countCycle u) ∨
       (s.phase = .batch ∧ canCycle s = false ∧ t = setPhase (beginStep s) .tick) ∨
       (s.phase = .tick ∧ t = setPhase (timerTick (beginStep s)) .present) ∨
       (s.phase = .present ∧ t = setPhase (presentDisplay (beginStep s)) .pad))) := by
  unfold step machineStep at h
  by_cases h1 : s.phase = .stopped
  · rw [if_pos h1] at h
    cases h
    exact .inl ⟨h1, rfl⟩
  rw [if_neg h1] at h
  right
  by_cases h2 : s.resetIn = some 0
  · rw [if_pos h2] at h
    obtain ⟨hl, ht⟩ := boot_eq_next.mp h
    exact .inl ⟨h1, h2, hl, ht⟩
  rw [if_neg h2] at h
  refine .inr ⟨h2, ?_⟩
  unfold frameStep at h
  rw [beginStep_phase] at h
  cases h3 : s.phase <;> rw [h3] at h <;> dsimp only at h
  case stopped => exact absurd h3 h1
  case pad => cases h; simp
  case input => cases h; simp
  case tick => cases h; simp
  case present => cases h; simp
  case execute =>
    unfold selectBatch at h
    rw [beginStep_run] at h
    cases h4 : s.run <;> rw [h4] at h <;> dsimp only at h
    case quit => cases h; simp
    case restart =>
      obtain ⟨hl, ht⟩ := boot_eq_next.mp h
      simp only [beginStep_params] at hl
      simp [hl, ht]
    case paused => cases h; simp
    case running =>
      by_cases h5 : s.fault = .noFault
      · rw [if_pos (by simpa using h5)] at h
        cases h; simp [h5]
      · rw [if_neg (by simpa using h5)] at h
        cases h; simp [h5]
  case batch =>
    unfold batchStep at h
    rw [show canCycle (beginStep s) = canCycle s from rfl] at h
    by_cases h5 : canCycle s = true
    · rw [if_pos h5] at h
      unfold instructionCycle at h
      rw [fetchWord_beginStep] at h
      obtain ⟨u, hu, rfl⟩ := onNext_eq_next.mp h
      simp only [canCycle, Bool.and_eq_true, decide_eq_true_eq] at h5
      simp [h5, hu]
    · rw [if_neg h5] at h
      cases h
      simp at h5
      simp [h5]

/-! ## Runs of several steps -/

/-- A run of one step more, from a state whose step is known; for any machine. -/
theorem hostRun_succ (M : Host.Core) {k : Nat} {s t : M.State} (h : M.step s = .next t) :
    Host.Core.run M (k + 1) s = Host.Core.run M k t := by simp only [Host.Core.run, h]

/-- A run of one step more answers a next state when its first step does and the rest of it. -/
theorem hostRun_succ_eq_next (M : Host.Core) {k : Nat} {s t : M.State} :
    Host.Core.run M (k + 1) s = .next t ↔ ∃ u, M.step s = .next u ∧ Host.Core.run M k u = .next t := by
  simp only [Host.Core.run]
  cases M.step s <;> simp

/-- `hostRun_succ` for CORE. -/
theorem run_succ {k : Nat} {s t : State} (h : step s = .next t) :
    Host.Core.run Sys2Proof.core (k + 1) s = Host.Core.run Sys2Proof.core k t := hostRun_succ Sys2Proof.core h

theorem run_succ_eq_next {k : Nat} {s t : State} :
    Host.Core.run Sys2Proof.core (k + 1) s = .next t ↔ ∃ u, step s = .next u ∧ Host.Core.run Sys2Proof.core k u = .next t :=
  hostRun_succ_eq_next Sys2Proof.core

/-- A run goes on from where a shorter one ended. -/
theorem run_add {j k : Nat} {s t : State} (h : Host.Core.run Sys2Proof.core j s = .next t) :
    Host.Core.run Sys2Proof.core (j + k) s = Host.Core.run Sys2Proof.core k t := by
  induction j generalizing s with
  | zero =>
    have e : (Host.Outcome.next s : Result) = .next t := h
    cases e
    rw [Nat.zero_add]
  | succ j ih =>
    obtain ⟨u, h1, h2⟩ := run_succ_eq_next.mp h
    rw [Nat.add_right_comm, run_succ h1, ih h2]

end Sys2Proof.Machine
end

