-- ==== Sys2Proof/Safety.lean ====
section
/-! DEFINITION. What counts as a safe state and a safe run, in the terms claims use. -/

namespace Sys2Proof.Machine

/-- No stack fault is latched. A state with `fault` set is "never a final state of a successful run" (60_exceptions.md R243). -/
def State.unfaulted (s : State) : Bool := decide (s.fault = .noFault)

/-- CORE has stopped: the end of a run (60_exceptions.md R252, 70_reset_and_hazards.md R296). -/
def State.finished (s : State) : Bool := decide (s.phase = .stopped)

/-- The first `k` steps from `s` are answered with a next state, and none of the states passed is faulted. -/
def SafeRun : Nat → State → Prop
  | 0, s => s.unfaulted = true
  | k + 1, s => s.unfaulted = true ∧ ∃ t, step s = .next t ∧ SafeRun k t

end Sys2Proof.Machine
end

