-- ==== Sys2Proof/Tests/Slice0.lean ====
section
/-! SUPPORT. The model's own tests. Words are written out from the column "encoding" of 30_encoding.md R100; the expected values of
the one-step tests are those of the vectors of spec/95_test_vectors.md named in each. A witness meets the hypotheses of the obligation
it is named after. -/

namespace Sys2Proof.Tests

open Sys2Proof Sys2Proof.Machine Sys2Proof.Claims

-- One theorem is checked after the other: many kernel evaluations at once use up the compile's threads.
set_option Elab.async false

/-! ## Well-formedness -/

theorem test_illformed_unknown_cls : (Instr.unknown 0x00E0).wellFormed = false := by decide
theorem test_illformed_unknown_load : (Instr.unknown 0x6A42).wellFormed = false := by decide
theorem test_wellformed_unknown : (Instr.unknown 0x5121).wellFormed = true := by decide

/-! ## Decoding: a word for every constructor, bit by bit from its encoding in R100 -/

theorem test_decode_cls : decodeTableWord 16 0b0000000011100000 = some (.cls) := by decide
theorem test_decode_ret : decodeTableWord 16 0b0000000011101110 = some (.ret) := by decide
theorem test_decode_jp : decodeTableWord 16 0b0001101010111100 = some (.jpNnn 0xABC) := by decide
theorem test_decode_call : decodeTableWord 16 0b0010101010111100 = some (.callNnn 0xABC) := by decide
theorem test_decode_se_imm : decodeTableWord 16 0b0011101001000010 = some (.seVxNn 0xA 0x42) := by decide
theorem test_decode_sne_imm : decodeTableWord 16 0b0100101001000010 = some (.sneVxNn 0xA 0x42) := by decide
theorem test_decode_se_reg : decodeTableWord 16 0b0101000100100000 = some (.seVxVy 1 2) := by decide
theorem test_decode_ld_imm : decodeTableWord 16 0b0110101001000010 = some (.ldVxNn 0xA 0x42) := by decide
theorem test_decode_add_imm : decodeTableWord 16 0b0111101001000010 = some (.addVxNn 0xA 0x42) := by decide
theorem test_decode_ld_reg : decodeTableWord 16 0b1000000100100000 = some (.ldVxVy 1 2) := by decide
theorem test_decode_or : decodeTableWord 16 0b1000000100100001 = some (.orVxVy 1 2) := by decide
theorem test_decode_and : decodeTableWord 16 0b1000000100100010 = some (.andVxVy 1 2) := by decide
theorem test_decode_xor : decodeTableWord 16 0b1000000100100011 = some (.xorVxVy 1 2) := by decide
theorem test_decode_add_reg : decodeTableWord 16 0b1000000100100100 = some (.addVxVy 1 2) := by decide
theorem test_decode_sub : decodeTableWord 16 0b1000000100100101 = some (.subVxVy 1 2) := by decide
theorem test_decode_shr : decodeTableWord 16 0b1000000100100110 = some (.shrVxVy 1 2) := by decide
theorem test_decode_subn : decodeTableWord 16 0b1000000100100111 = some (.subnVxVy 1 2) := by decide
theorem test_decode_shl : decodeTableWord 16 0b1000000100101110 = some (.shlVxVy 1 2) := by decide
theorem test_decode_sne_reg : decodeTableWord 16 0b1001000100100000 = some (.sneVxVy 1 2) := by decide
theorem test_decode_ld_i : decodeTableWord 16 0b1010101010111100 = some (.ldINnn 0xABC) := by decide
theorem test_decode_jp_v0 : decodeTableWord 16 0b1011101010111100 = some (.jpV0Nnn 0xABC) := by decide
theorem test_decode_rnd : decodeTableWord 16 0b1100101001000010 = some (.rndVxNn 0xA 0x42) := by decide
theorem test_decode_drw : decodeTableWord 16 0b1101000100101111 = some (.drwVxVyN 1 2 0xF) := by decide
theorem test_decode_skp : decodeTableWord 16 0b1110001110011110 = some (.skpVx 3) := by decide
theorem test_decode_sknp : decodeTableWord 16 0b1110001110100001 = some (.sknpVx 3) := by decide
theorem test_decode_ld_vx_dt : decodeTableWord 16 0b1111001100000111 = some (.ldVxDt 3) := by decide
theorem test_decode_ld_vx_k : decodeTableWord 16 0b1111001100001010 = some (.ldVxK 3) := by decide
theorem test_decode_ld_dt_vx : decodeTableWord 16 0b1111001100010101 = some (.ldDtVx 3) := by decide
theorem test_decode_ld_st_vx : decodeTableWord 16 0b1111001100011000 = some (.ldStVx 3) := by decide
theorem test_decode_add_i_vx : decodeTableWord 16 0b1111001100011110 = some (.addIVx 3) := by decide
theorem test_decode_ld_f_vx : decodeTableWord 16 0b1111001100101001 = some (.ldFVx 3) := by decide
theorem test_decode_ld_b_vx : decodeTableWord 16 0b1111001100110011 = some (.ldBVx 3) := by decide
theorem test_decode_ld_ind_vx : decodeTableWord 16 0b1111001101010101 = some (.ldIndVx 3) := by decide
theorem test_decode_ld_vx_ind : decodeTableWord 16 0b1111001101100101 = some (.ldVxInd 3) := by decide
theorem test_decode_unknown : decodeTableWord 16 0b0000000111100000 = some (.unknown 0x01E0) := by decide

/-! ## One step -/

/-- The reset state inside a batch with one slot left, the tracer on, and the byte 0xA7 on `rand8`. -/
def start : State :=
  { State.reset with
    phase := .batch
    batchLeft := 1
    rand8 := 0xA7
    params := { rom := [], font := defaultFont, instPerSec := 60, debugEn := true } }

/-- Data registers set. -/
def setV (s : State) (vs : List (Nibble × Byte)) : State := vs.foldl (fun t p => writeV t p.1 p.2) s

/-- Keys held. -/
def press (s : State) (ks : List Nibble) : State := ks.foldl (fun t k => writeKey t k true) s

/-- Pixels lit. -/
def light (s : State) (ps : List (Nat × Nat)) : State :=
  ps.foldl (fun t p => writeDisp t (Grid.setPixel t.disp p.1 p.2 true)) s

/-- The state after the next step. -/
def after (s : State) : State :=
  match step s with
  | .next t => t
  | .fault _ => s
  | .refused _ => s

/-- The state after one instruction cycle that fetches the word `w`. -/
def cycle (w : Nat) (s : State) : State := after (s.withFetchWord 16 w)

/-- CF-1 -/
theorem test_ret :
    let t := cycle 0x00EE ({ start with sp := 1, stack := start.stack.set 0 0x0456 })
    t.pc = 0x0456 ∧ t.sp = 0 ∧ stackEntry t 0 = 0x0456 := by decide +kernel
/-- CF-3 -/
theorem test_ret_empty_stack :
    let t := cycle 0x00EE (start)
    t.pc = 0x0202 ∧ t.sp = 0 ∧ t.fault = .stackUnderflow ∧ t.batchLeft = 0 ∧ t.debugOut.getLast? = some (.stackUnderflow 0x0200 0x00EE) := by decide +kernel
/-- CF-5 -/
theorem test_jp :
    let t := cycle 0x1ABC (start)
    t.pc = 0x0ABC := by decide +kernel
/-- CF-9 -/
theorem test_call_from_last_word :
    let t := cycle 0x2300 ({ start with pc := 0x0FFE, sp := 11 })
    t.pc = 0x0300 ∧ t.sp = 12 ∧ stackEntry t 11 = 0x1000 := by decide +kernel
/-- CF-10 -/
theorem test_call_full_stack :
    let t := cycle 0x2300 ({ start with sp := 12 })
    t.pc = 0x0202 ∧ t.sp = 12 ∧ t.fault = .stackOverflow ∧ t.debugOut.getLast? = some (.stackOverflow 0x0200 0x2300) := by decide +kernel
/-- CF-11 -/
theorem test_se_imm :
    let t := cycle 0x3A42 (setV start [(10, 0x42)])
    t.pc = 0x0204 := by decide +kernel
/-- CF-24 -/
theorem test_se_imm_at_top :
    let t := cycle 0x3000 ({ start with pc := 0x0FFE })
    t.pc = 0x1002 := by decide +kernel
/-- CF-13 -/
theorem test_sne_imm_equal :
    let t := cycle 0x4A42 (setV start [(10, 0x42)])
    t.pc = 0x0202 := by decide +kernel
/-- CF-14 -/
theorem test_sne_imm :
    let t := cycle 0x4A42 (setV start [(10, 0x43)])
    t.pc = 0x0204 := by decide +kernel
/-- CF-15 -/
theorem test_se_reg :
    let t := cycle 0x5120 (setV start [(1, 0x07), (2, 0x07)])
    t.pc = 0x0204 := by decide +kernel
/-- CF-16 -/
theorem test_se_reg_differ :
    let t := cycle 0x5120 (setV start [(1, 0x07), (2, 0x08)])
    t.pc = 0x0202 := by decide +kernel
/-- CF-18 -/
theorem test_sne_reg_equal :
    let t := cycle 0x9120 (setV start [(1, 0x07), (2, 0x07)])
    t.pc = 0x0202 := by decide +kernel
/-- CF-19 -/
theorem test_sne_reg :
    let t := cycle 0x9120 (setV start [(1, 0x07), (2, 0x08)])
    t.pc = 0x0204 := by decide +kernel
/-- CF-22 -/
theorem test_jp_v0_wraps :
    let t := cycle 0xBFFF (setV start [(0, 0x02)])
    t.pc = 0x0001 := by decide +kernel
/-- CF-25 -/
theorem test_unknown_no_skip :
    let t := cycle 0x5121 (setV start [(1, 0x07), (2, 0x07)])
    t.pc = 0x0202 ∧ t.fault = .noFault ∧ t.debugOut.getLast? = some (.unknownOpcode 0x0200 0x5121) := by decide +kernel
/-- AL-1 -/
theorem test_ld_imm :
    let t := cycle 0x6A42 (start)
    readV t 10 = 0x42 ∧ t.pc = 0x0202 := by decide +kernel
/-- AL-3 -/
theorem test_add_imm_wraps :
    let t := cycle 0x7A01 (setV start [(10, 0xFF), (15, 0x55)])
    readV t 10 = 0 ∧ readV t 15 = 0x55 := by decide +kernel
/-- AL-7 -/
theorem test_ld_reg_into_vf :
    let t := cycle 0x8F20 (setV start [(2, 0xAB)])
    readV t 15 = 0xAB := by decide +kernel
/-- AL-10 -/
theorem test_or_into_vf :
    let t := cycle 0x8F21 (setV start [(2, 0xF0), (15, 0x0F)])
    readV t 15 = 0 := by decide +kernel
/-- AL-11 -/
theorem test_or_from_vf :
    let t := cycle 0x81F1 (setV start [(1, 0x10), (15, 0x01)])
    readV t 1 = 0x11 ∧ readV t 15 = 0 := by decide +kernel
/-- AL-12 -/
theorem test_and :
    let t := cycle 0x8122 (setV start [(1, 0x3C), (2, 0x0F), (15, 0x01)])
    readV t 1 = 0x0C ∧ readV t 15 = 0 := by decide +kernel
/-- AL-14 -/
theorem test_xor :
    let t := cycle 0x8123 (setV start [(1, 0xFF), (2, 0x0F), (15, 0x01)])
    readV t 1 = 0xF0 ∧ readV t 15 = 0 := by decide +kernel
/-- AL-18 -/
theorem test_add_carry :
    let t := cycle 0x8124 (setV start [(1, 0xFF), (2, 0x01)])
    readV t 1 = 0 ∧ readV t 15 = 1 := by decide +kernel
/-- AL-21 -/
theorem test_add_into_vf :
    let t := cycle 0x8F24 (setV start [(2, 0x07), (15, 0x05)])
    readV t 15 = 0 := by decide +kernel
/-- AL-26 -/
theorem test_sub_borrow :
    let t := cycle 0x8125 (setV start [(1, 0x03), (2, 0x0A)])
    readV t 1 = 0xF9 ∧ readV t 15 = 0 := by decide +kernel
/-- AL-27 -/
theorem test_sub_equal :
    let t := cycle 0x8125 (setV start [(1, 0x07), (2, 0x07)])
    readV t 1 = 0 ∧ readV t 15 = 1 := by decide +kernel
/-- AL-31 -/
theorem test_shr_reads_vy :
    let t := cycle 0x8126 (setV start [(1, 0xFF), (2, 0x05)])
    readV t 1 = 2 ∧ readV t 2 = 5 ∧ readV t 15 = 1 := by decide +kernel
/-- AL-35 -/
theorem test_shr_into_vf :
    let t := cycle 0x8F26 (setV start [(2, 0x06), (15, 0x09)])
    readV t 15 = 0 := by decide +kernel
/-- AL-38 -/
theorem test_subn :
    let t := cycle 0x8127 (setV start [(1, 0x03), (2, 0x0A)])
    readV t 1 = 7 ∧ readV t 15 = 1 := by decide +kernel
/-- AL-39 -/
theorem test_subn_borrow :
    let t := cycle 0x8127 (setV start [(1, 0x0A), (2, 0x03)])
    readV t 1 = 0xF9 ∧ readV t 15 = 0 := by decide +kernel
/-- AL-42 -/
theorem test_shl_reads_vy :
    let t := cycle 0x812E (setV start [(2, 0x81)])
    readV t 1 = 2 ∧ readV t 15 = 1 := by decide +kernel
/-- AL-45 -/
theorem test_shl_into_vf :
    let t := cycle 0x8F2E (setV start [(2, 0x40), (15, 0x01)])
    readV t 15 = 0 := by decide +kernel
/-- AL-48 -/
theorem test_rnd_masks :
    let t := cycle 0xC10F (start)
    readV t 1 = 0x07 := by decide +kernel
/-- AL-50 -/
theorem test_rnd_mask_zero_takes_a_byte :
    let t := cycle 0xC100 (setV start [(1, 0x55)])
    readV t 1 = 0 ∧ t.randTaken = 1 := by decide +kernel
/-- IM-2 -/
theorem test_ld_i :
    let t := cycle 0xAFFF ({ start with i := 0xFFFF })
    t.i = 0x0FFF := by decide +kernel
/-- IM-4 -/
theorem test_add_i_past_0fff :
    let t := cycle 0xF21E ({ setV start [(2, 0x01), (15, 0x77)] with i := 0x0FFF })
    t.i = 0x1000 ∧ readV t 15 = 0x77 := by decide +kernel
/-- IM-5 -/
theorem test_add_i_wraps :
    let t := cycle 0xF21E ({ setV start [(2, 0x02)] with i := 0xFFFF })
    t.i = 0x0001 := by decide +kernel
/-- IM-8 -/
theorem test_ld_f_low_nibble :
    let t := cycle 0xF429 (setV start [(4, 0x1A)])
    t.i = 0x0032 := by decide +kernel
/-- IM-11 -/
theorem test_bcd :
    let t := cycle 0xF333 ({ setV start [(3, 0xAB)] with i := 0x0300 })
    memReadBytes t 0x300 4 = [1, 7, 1, 0] ∧ t.i = 0x0300 := by decide +kernel
/-- IM-16 -/
theorem test_bcd_across_top :
    let t := cycle 0xF333 ({ setV start [(3, 0x7B)] with i := 0x0FFF })
    memReadBytes t 0xFFF 3 = [1, 2, 3] ∧ memRead t 0 = 2 := by decide +kernel
/-- IM-18 -/
theorem test_store :
    let t := cycle 0xF255 ({ setV start [(0, 0x11), (1, 0x22), (2, 0x33), (3, 0x44)] with i := 0x0400 })
    t.i = 0x0403 ∧ memReadBytes t 0x400 4 = [0x11, 0x22, 0x33, 0] := by decide +kernel
/-- IM-22 -/
theorem test_store_index_wraps :
    let t := cycle 0xF055 ({ setV start [(0, 0x5A)] with i := 0xFFFF })
    t.i = 0 ∧ memRead t 0xFFF = 0x5A := by decide +kernel
/-- IM-24 -/
theorem test_load :
    let t := cycle 0xF265 (memWriteBytes { setV start [(3, 0x99)] with i := 0x0400 } 0x400 [0x11, 0x22, 0x33, 0x44])
    readVUpTo t 3 = [0x11, 0x22, 0x33, 0x99] ∧ t.i = 0x0403 := by decide +kernel
/-- IM-27 -/
theorem test_load_across_top :
    let t := cycle 0xF165 (memWrite { start with i := 0x0FFF } 0xFFF 0x77)
    readV t 0 = 0x77 ∧ readV t 1 = 0xF0 ∧ t.i = 0x1001 := by decide +kernel
/-- KT-3 -/
theorem test_skp_low_nibble :
    let t := cycle 0xE19E (press (setV start [(1, 0x25)]) [5])
    t.pc = 0x0204 := by decide +kernel
/-- KT-4 -/
theorem test_skp_other_keys :
    let t := cycle 0xE19E (press (setV start [(1, 0x05)]) [4, 6])
    t.pc = 0x0202 := by decide +kernel
/-- KT-7 -/
theorem test_sknp_held :
    let t := cycle 0xE1A1 (press (setV start [(1, 0xF0)]) [0])
    t.pc = 0x0202 := by decide +kernel
/-- KT-6 -/
theorem test_sknp :
    let t := cycle 0xE1A1 (setV start [(1, 0x05)])
    t.pc = 0x0204 := by decide +kernel
/-- KT-9 -/
theorem test_ld_vx_dt :
    let t := cycle 0xFF07 ({ start with dt := 0x3C })
    readV t 15 = 0x3C := by decide +kernel
/-- KT-10 -/
theorem test_ld_dt_vx :
    let t := cycle 0xF515 (setV start [(5, 0x3C)])
    t.dt = 0x3C ∧ t.st = 0 := by decide +kernel
/-- KT-12 -/
theorem test_ld_st_vx :
    let t := cycle 0xF618 (setV start [(6, 0x02)])
    t.st = 2 ∧ t.dt = 0 ∧ t.tone = false := by decide +kernel
/-- KT-15 -/
theorem test_ld_vx_k_lowest :
    let t := cycle 0xF30A (press start [9, 4, 15])
    t.pc = 0x0200 ∧ t.wk = .seen 4 := by decide +kernel
/-- KT-18 -/
theorem test_ld_vx_k_released :
    let t := cycle 0xF30A (press { start with wk := .seen 7 } [2])
    readV t 3 = 7 ∧ t.pc = 0x0202 ∧ t.wk = .none := by decide +kernel
/-- DS-1 -/
theorem test_cls :
    let t := cycle 0x00E0 (light start [(0, 0), (10, 10), (63, 31)])
    pixel t 0 0 = false ∧ pixel t 10 10 = false ∧ pixel t 63 31 = false := by decide +kernel
/-- DS-6 -/
theorem test_drw_clips_right :
    let t := cycle 0xD121 (memWrite { setV start [(1, 0x3E)] with i := 0x0300 } 0x300 0xFF)
    pixel t 61 0 = false ∧ pixel t 62 0 = true ∧ pixel t 63 0 = true ∧ pixel t 0 0 = false ∧ pixel t 0 1 = false ∧ readV t 15 = 0 := by decide +kernel
/-- DS-16 -/
theorem test_drw_y_is_vf :
    let t := cycle 0xD1F1 (light (memWrite { setV start [(1, 0x01), (15, 0x03)] with i := 0x0300 } 0x300 0x80) [(1, 3)])
    pixel t 1 3 = false ∧ pixel t 1 1 = false ∧ readV t 15 = 1 := by decide +kernel

/-- The trace record of a cycle: the registers before execution (60_exceptions.md R263). -/
theorem test_trace_before_execution :
    (cycle 0x6A42 start).debugOut = [.trace 0x0200 0x6A42 (Vector.replicate 16 0) 0 0 0 0] := by decide +kernel

/-- 60_exceptions.md R255 (b): after the tick that takes `ST` from 1 to 0 the tone is on; the next one turns it off. -/
theorem test_tone_lags : (after { start with phase := .tick, st := 1 }).tone = true ∧
    (after { start with phase := .tick, tone := true }).tone = false := by decide +kernel

/-- 60_exceptions.md R253: of two toggles and a `Quit` in one drain `Quit` stays. -/
theorem test_drain_quit : (after { start with phase := .input, batchLeft := 0, pend := [.pauseToggle, .quit, .pauseToggle] }).run = .quit := by
  decide +kernel

/-- 70_reset_and_hazards.md R291: the ROM image at 0x200, the font at 0x000, zeros after the image. -/
theorem test_restart_loads_rom :
    let t := after { start with phase := .execute, batchLeft := 0, run := .restart, params := { start.params with rom := [0x60, 0x05] } }
    memReadBytes t 0x200 3 = [0x60, 0x05, 0] ∧ memReadBytes t 0 2 = [0xF0, 0x90] ∧ t.pc = 0x0200 ∧ t.run = .running := by decide +kernel

/-! ## Witnesses -/

/-- `start` with the word of FX0A placed and key 7 recorded. -/
def waiting : State := { (start.withFetchWord 16 0xF30A) with wk := .seen 7 }

theorem witness_DecodeOfEncode : Instr.wellFormed (.unknown 0x5121) = true ∧ Instr.wellFormed (.drwVxVyN 15 0 15) = true := by decide
theorem witness_DecoderSelectsTheMatchingRow :
    (⟨0xF065, 0xF0FF⟩ : OpcodeRow) ∈ opcodeTable ∧ (0xFF65 : Word) &&& 0xF0FF = 0xF065 ∧
    ∀ r ∈ opcodeTable, (0x0000 : Word) &&& r.mask ≠ r.value := by decide
theorem witness_StepRunsTheDecodedInstruction :
    CycleNext (start.withFetchWord 16 0x00E0) ∧ InstrAt (start.withFetchWord 16 0x00E0) .cls := by
  constructor
  · unfold CycleNext; decide +kernel
  · rfl
theorem witness_NoInstructionOutsideACycle :
    step { start with run := .paused } = .next (after { start with run := .paused }) ∧ ¬ CycleNext { start with run := .paused } ∧
    ¬ BootNext { start with run := .paused } := by
  refine ⟨rfl, ?_, ?_⟩
  · unfold CycleNext; decide +kernel
  · unfold BootNext; decide +kernel
theorem witness_InstructionsWriteOnlyTheirState : exec .cls start = .next (writeDisp start blankGrid) := rfl
theorem witness_ReadAfterWrite :
    Memory.wf start.params.font start.mem = true ∧ 0x1FFF % 4096 = 0xFFF % 4096 ∧ 0x1000 % 4096 ≠ 0xFFF % 4096 := by decide +kernel
theorem witness_CanonicalMemoriesReadingAlikeAreEqual :
    (memWrite (memWrite start 0x300 1) 0x300 0).params = start.params ∧ Memory.wf start.params.font start.mem = true ∧
    Memory.wf (memWrite (memWrite start 0x300 1) 0x300 0).params.font (memWrite (memWrite start 0x300 1) 0x300 0).mem = true ∧
    ∀ a < 4096, memRead (memWrite (memWrite start 0x300 1) 0x300 0) a = memRead start a := by
  refine ⟨rfl, by decide +kernel, by decide +kernel, fun a _ => ?_⟩
  have e : (memWrite (memWrite start 0x300 1) 0x300 0).mem = start.mem := by decide +kernel
  exact memRead_congr e rfl a
theorem witness_PlacedWordIsRun :
    Memory.wf start.params.font start.mem = true ∧ decodeTableWord 16 0xFFFF = some (.unknown 0xFFFF) := by decide +kernel
theorem witness_DrawTogglesClipsAndDetectsCollision :
    let s := light { start with i := 0 } [(0, 0)]
    (spriteOn s 0 1 5 0 0 = true ∧ pixel s 0 0 = true) ∧
    (List.range 64).all (fun px => (List.range 32).all fun py => !spriteOn start 0 1 0 px py) = true := by decide +kernel
theorem witness_DrawingTwiceRestoresTheDisplay :
    (0 : Nibble) ≠ 15 ∧ (14 : Nibble) ≠ 15 ∧ spriteOn start 0 14 5 0 0 = true ∧ pixel start 0 0 = false := by decide +kernel
theorem witness_CallPushesTheReturnAddress : ({ start with sp := 11 } : State).sp.val < 12 ∧ start.sp.val < 12 := by decide
theorem witness_ReturnPopsTheStack : 0 < ({ start with sp := 1 } : State).sp.val ∧ 0 < ({ start with sp := 12 } : State).sp.val := by decide
theorem witness_StackFaultsLatchAndEndTheBatch : ({ start with sp := 12 } : State).sp.val = 12 ∧ start.sp.val = 0 := by decide
theorem witness_ReturnComesBackAfterTheCall :
    let s : State := { start with sp := 11 }
    let t := writePc (pushPc s) 0x300
    s.sp.val < 12 ∧ exec (.callNnn 0x300) s = .next t ∧ ({ t with dt := 9 } : State).stack = t.stack ∧ ({ t with dt := 9 } : State).sp = t.sp :=
  ⟨by decide, rfl, rfl, rfl⟩
theorem witness_SkipWhenRegistersAreEqual : (1 : Nibble) ≠ 0 ∧ (15 : Nibble) ≠ 0 := by decide
theorem witness_SkipWhenRegistersDiffer : (1 : Nibble) ≠ 0 ∧ (15 : Nibble) ≠ 0 := by decide
theorem witness_BcdStoresThreeDigits :
    Memory.wf start.params.font ({ start with i := 0xFFFF } : State).mem = true ∧ ∀ k < 3, (0xFFFF + k) % 4096 ≠ 0x300 % 4096 := by decide +kernel
theorem witness_StoreRegistersAdvancesIndex :
    Memory.wf start.params.font ({ start with i := 0xFFFF } : State).mem = true ∧ (15 : Nibble) ≤ 15 ∧
    ∀ k < 16, (0xFFFF + k) % 4096 ≠ 0x300 % 4096 := by decide +kernel
theorem witness_LoadRegistersAdvancesIndex : (0 : Nibble) ≤ 0 ∧ (0 : Nibble) < 1 ∧ (15 : Nibble) ≤ 15 := by decide
theorem witness_LoadUndoesStore :
    Memory.wf start.params.font ({ start with i := 0x0FFF } : State).mem = true ∧ (15 : Nibble) ≤ 15 := by decide +kernel
theorem witness_SkipsOnKey :
    (15 : Nibble).toNat = (readV (setV start [(3, 0x2F)]) 3).toNat % 16 ∧ (0 : Nibble).toNat = (readV start 3).toNat % 16 := by decide +kernel
theorem witness_KeyWaitTransitions :
    (start.wk = .none ∧ ∀ j, keyHeld start j = false) ∧
    ((press start [15]).wk = .none ∧ keyHeld (press start [15]) 15 = true ∧ ∀ j, j < 15 → keyHeld (press start [15]) j = false) ∧
    ((press start [0, 9]).wk = .none ∧ keyHeld (press start [0, 9]) 0 = true) ∧
    ((press waiting [7]).wk = .seen 7 ∧ keyHeld (press waiting [7]) 7 = true) ∧
    (waiting.wk = .seen 7 ∧ keyHeld waiting 7 = false) := by decide +kernel
theorem witness_ResetAndRestartBoot :
    let s : State := { start with params := { start.params with rom := List.replicate 3584 0 } }
    BootNext { s with resetIn := some 0 } ∧ BootNext { s with phase := .execute, run := .restart } ∧ s.params.rom.length ≤ 3584 ∧
    (let u : State := { start with resetIn := some 1 }
     step u = .next (after u) ∧ ¬ BootNext u ∧ u.phase ≠ .stopped ∧ u.phase ≠ .pad ∧ (after u).resetIn = some 0) := by
  refine ⟨⟨by simp [start], .inl rfl⟩, ⟨by simp, .inr ⟨rfl, rfl⟩⟩, Nat.le_of_eq List.length_replicate, rfl, ?_, ?_⟩
  · simp [BootNext, start]
  · exact ⟨by simp [start], by simp [start], rfl⟩
theorem witness_OversizeRomIsRefused :
    let s : State := { start with params := { start.params with rom := List.replicate 3585 0 } }
    BootNext { s with resetIn := some 0 } ∧ BootNext { s with phase := .execute, run := .restart } ∧ 3584 < s.params.rom.length := by
  refine ⟨⟨by simp [start], .inl rfl⟩, ⟨by simp, .inr ⟨rfl, rfl⟩⟩, Nat.lt_of_lt_of_eq (by decide) List.length_replicate.symm⟩
theorem step_oversize {r : List Byte} (h : r.length = 3585) :
    step { start with resetIn := some 0, params := { start.params with rom := r } } = .refused (.romTooLarge 3585) := by
  simp [step, machineStep, boot, start, State.reset, h]
theorem witness_StepStopsOnlyForAnOversizeRom :
    (∃ t, step start = .next t) ∧
    step { start with resetIn := some 0, params := { start.params with rom := List.replicate 3585 0 } } = .refused (.romTooLarge 3585) :=
  ⟨⟨after start, rfl⟩, step_oversize List.length_replicate⟩
theorem witness_DrainAppliesEveryEvent :
    let s : State := { start with phase := .input, pend := [.keyDown 0, .keyUp 0, .keyUp 15, .keyDown 15] }
    s.phase = .input ∧ s.resetIn ≠ some 0 ∧
    (s.pend = [.keyDown 0, .keyUp 0, .keyUp 15] ++ Event.keyDown 15 :: [] ∧ NoKeyEvent [] 15) ∧
    (s.pend = [.keyDown 0] ++ Event.keyUp 0 :: [.keyUp 15, .keyDown 15] ∧ NoKeyEvent [.keyUp 15, .keyDown 15] 0) ∧
    NoKeyEvent s.pend 7 := by
  refine ⟨rfl, nofun, ⟨rfl, ?_⟩, ⟨rfl, ?_⟩, ?_⟩ <;> unfold NoKeyEvent <;> decide +kernel
theorem witness_QuitWinsInADrain :
    let s : State := { start with phase := .input, pend := [.quit, .pauseToggle] }
    s.phase = .input ∧ s.resetIn ≠ some 0 ∧ step s = .next (after s) := ⟨rfl, nofun, rfl⟩
theorem witness_FrameSelectsByRunState :
    let s : State := { start with phase := .execute }
    (s.phase = .execute ∧ s.resetIn ≠ some 0) ∧ ({ s with run := .quit } : State).run = .quit ∧
    ({ s with run := .paused } : State).run = .paused ∧
    (s.run = .running ∧ ({ s with fault := .stackOverflow } : State).fault ≠ .noFault) ∧ s.fault = .noFault := by decide +kernel
theorem witness_BatchRunsExactlyIpfCycles :
    let s : State := { start with phase := .execute }
    (s.phase = .execute ∧ s.resetIn ≠ some 0 ∧ s.run = .running ∧ s.fault = .noFault) ∧
    (let u : State := { s with resetIn := some 1 }
     u.resetIn ≠ some 0 ∧ Host.Core.run Sys2Proof.core 1 u = .next (after u) ∧ BootNext (after u)) :=
  ⟨⟨rfl, nofun, rfl, rfl⟩, nofun, rfl, nofun, .inl rfl⟩
theorem witness_InputIsConstantInABatch :
    start.phase = .batch ∧ start.resetIn ≠ some 0 ∧ step start = .next (after start) ∧ (∀ x, ¬ InstrAt start (.ldDtVx x)) ∧
    ∀ x, ¬ InstrAt start (.ldStVx x) := by
  have h : InstrAt start (.unknown 0) := rfl
  refine ⟨rfl, nofun, rfl, fun x e => ?_, fun x e => ?_⟩ <;>
  · have := h.symm.trans e
    simp at this
theorem witness_TimerTickCountsDown :
    ({ start with phase := .tick, dt := 1, st := 255 } : State).phase = .tick ∧ start.resetIn ≠ some 0 := by decide +kernel
theorem witness_TimersTickWhilePausedOrFaulted :
    let s : State := { start with phase := .execute }
    s.phase = .execute ∧ (∀ n, s.resetIn = some n → 3 ≤ n) ∧
    (∀ n, ({ s with resetIn := some 3 } : State).resetIn = some n → 3 ≤ n) ∧ ({ s with run := .paused } : State).run = .paused ∧
    (s.run = .running ∧ ({ s with fault := .stackUnderflow } : State).fault ≠ .noFault) :=
  ⟨rfl, nofun, fun n h => by simp at h; omega, rfl, rfl, nofun⟩
theorem witness_PresentationCopiesTheDisplay :
    ({ start with phase := .present } : State).phase = .present ∧ start.resetIn ≠ some 0 := by decide +kernel
theorem witness_WaitingOnlyAppendsEvents : State.reset.phase = .pad ∧ State.reset.resetIn ≠ some 0 := ⟨rfl, nofun⟩
theorem witness_StoppedForGood : ({ start with phase := .stopped } : State).phase = .stopped := rfl
theorem witness_StepKeepsTheInvariant : Inv start ∧ step start = .next (after start) := by
  refine ⟨⟨?_, ?_, ?_, ?_, ?_, ?_, ?_, ?_, ?_⟩, rfl⟩ <;> decide +kernel
theorem witness_StepKeepsTheKeyWaitAtItsInstruction :
    WaitPinned waiting ∧ waiting.wk = .seen 7 ∧ step waiting = .next (after waiting) := ⟨fun _ => ⟨3, rfl⟩, rfl, rfl⟩
theorem witness_TimersIncreaseOnlyByTheirLoads :
    let s := (setV start [(5, 0x3C)]).withFetchWord 16 0xF515
    let u := (setV start [(5, 0x3C)]).withFetchWord 16 0xF518
    (step s = .next (after s) ∧ s.dt < (after s).dt) ∧ step u = .next (after u) ∧ u.st < (after u).st := by
  refine ⟨⟨rfl, ?_⟩, rfl, ?_⟩ <;> decide +kernel
theorem witness_TracerDoesNotInterfere :
    let s : State := { start with params := { start.params with debugEn := false } }
    untraced s = untraced start ∧ Host.Core.run Sys2Proof.core 1 s = .next (after s) := ⟨rfl, rfl⟩
theorem witness_TopPcBitsAreUnobservable :
    let s : State := { start with pc := 0x1200, stack := start.stack.set 0 0xF000 }
    SameUpToTopBits start s ∧ Host.Core.run Sys2Proof.core 1 start = .next (after start) := by
  refine ⟨⟨rfl, by decide +kernel, fun k => ?_⟩, rfl⟩
  by_cases h : k = 0
  · subst h; decide +kernel
  · have e : stackEntry { start with pc := 0x1200, stack := start.stack.set 0 0xF000 } k = stackEntry start k := by
      simp [stackEntry, Ne.symm h]
    rw [e]
theorem witness_ParametersAreConstant : step start = .next (after start) := rfl

end Sys2Proof.Tests
end

/-! PROOFS. What no instruction writes, and that the parameters do not change (00_scope.md R6, 10_state.md R40). -/

namespace Sys2Proof.Machine

/-! ## What an instruction leaves unchanged: first those that branch, and the bulk load FX65 -/

theorem execRet_frame {s t : State} (h : execRet s = .next t) :
    t = { s with pc := t.pc, sp := t.sp, fault := t.fault, batchLeft := t.batchLeft, debugOut := t.debugOut } := by
  unfold execRet at h
  split at h <;> cases h <;> rfl

theorem execCallNnn_frame {nnn : Addr12} {s t : State} (h : execCallNnn nnn s = .next t) :
    t = { s with pc := t.pc, stack := t.stack, sp := t.sp, fault := t.fault, batchLeft := t.batchLeft,
                 debugOut := t.debugOut } := by
  unfold execCallNnn at h
  split at h <;> cases h <;> rfl

theorem execLdVxK_frame {x : Nibble} {s t : State} (h : execLdVxK x s = .next t) :
    t = { s with v := t.v, pc := t.pc, wk := t.wk } := by
  unfold execLdVxK at h
  split at h
  · split at h <;> cases h <;> rfl
  · split at h <;> cases h <;> rfl

theorem execLdVxInd_frame {x : Nibble} {s t : State} (h : execLdVxInd x s = .next t) :
    t = { s with v := t.v, i := t.i } := by
  cases h
  rw [writeVFrom_frame]
  rfl

/-- No instruction writes `keys`, `run`, `inst`, `tone`, `pend`, the countdown to `reset`, `display_out`, the parameters or
CORE's place in the frame (45_keypad_timers.md R227). -/
theorem exec_frame {i : Instr} {s t : State} (h : exec i s = .next t) :
    t = { s with
      mem := t.mem, v := t.v, i := t.i, pc := t.pc, stack := t.stack, sp := t.sp, disp := t.disp, dt := t.dt, st := t.st,
      wk := t.wk, fault := t.fault, batchLeft := t.batchLeft, rand8 := t.rand8, debugOut := t.debugOut,
      randTaken := t.randTaken } := by
  cases i
  case ret => rw [execRet_frame h]
  case callNnn => rw [execCallNnn_frame h]
  case ldVxK => rw [execLdVxK_frame h]
  case ldVxInd => rw [execLdVxInd_frame h]
  all_goals
    cases h
    rfl

/-! ## The parameters -/

theorem exec_params {i : Instr} {s t : State} (h : exec i s = .next t) : t.params = s.params := by
  rw [exec_frame h]

@[simp] theorem drain_params (s : State) : (drain s).params = s.params := by
  rw [drain_frame]

@[simp] theorem bootState_params (s : State) : (bootState s).params = s.params := rfl

/-- Settles O60: of the steps of a frame only an instruction cycle runs an instruction, and none writes a parameter. -/
theorem parametersAreConstant : Obligations.ParametersAreConstant := by
  intro s t h
  obtain ⟨_, rfl⟩ | ⟨_, _, _, rfl⟩ | ⟨_, hframe⟩ := step_cases h
  · rfl
  · simp
  · obtain ⟨_, rfl⟩ | ⟨_, rfl⟩ | ⟨_, _, rfl⟩ | ⟨_, _, _, rfl⟩ | ⟨_, _, rfl⟩ | ⟨_, _, _, rfl⟩ |
      ⟨_, _, _, _, u, hu, rfl⟩ | ⟨_, _, rfl⟩ | ⟨_, rfl⟩ | ⟨_, rfl⟩ := hframe
    · simp
    · simp
    · simp
    · simp
    · simp
    · simp
    · simpa using exec_params hu
    · simp
    · simp
    · simp

end Sys2Proof.Machine

/-! PROOFS. RAM has one representation, and the state after a boot and after reset (10_state.md R27, R42). -/

namespace Sys2Proof.Machine

open Sys2Proof.Claims

/-! ## RAM -/

/-- Settles O12: reading goes modulo 4096, and canonical memories that read alike are the same data. -/
theorem canonicalMemoriesReadingAlikeAreEqual : Obligations.CanonicalMemoriesReadingAlikeAreEqual := by
  intro s t hp hs ht hread
  rw [hp] at ht
  refine Memory.eq_of_read_eq ht hs fun a _ ha => ?_
  simpa [memRead, hp, Nat.mod_eq_of_lt ha] using hread a ha

/-! ## The state the boot sequence leaves -/

@[simp] theorem pixel_blankGrid (x y : Nat) : Grid.pixel blankGrid x y = false := by
  by_cases hy : y < 32 <;> by_cases hx : x < 64 <;> simp [Grid.pixel, blankGrid, hy, hx]

/-- The boot sequence stores the image at 0x200 of a RAM that holds the font alone (70_reset_and_hazards.md R291). -/
theorem memRead_bootState (s : State) (a : Nat) :
    memRead (bootState s) a = memRead (memWriteBytes { s with mem := [] } Config.entry s.params.rom) a := rfl

theorem memRead_bootState_image {s : State} (hlen : s.params.rom.length ≤ Config.romMax) {j : Nat}
    (hj : j < s.params.rom.length) : memRead (bootState s) (Config.entry + j) = s.params.rom[j] :=
  memRead_memWriteBytes (s := { s with mem := [] }) Memory.wf_nil s.params.rom (hlen.trans (by decide)) hj

theorem memRead_bootState_other {s : State} {a : Nat}
    (ha : ∀ k < s.params.rom.length, (Config.entry + k) % Config.memSize ≠ a % Config.memSize) :
    memRead (bootState s) a = Memory.unlisted s.params.font (a % Config.memSize) :=
  memRead_memWriteBytes_other (s := { s with mem := [] }) Memory.wf_nil s.params.rom ha

/-- Below 0x200 a boot leaves the font, and 0 after it. -/
theorem memRead_bootState_low {s : State} (hlen : s.params.rom.length ≤ Config.romMax) {a : Nat} (ha : a < Config.entry) :
    memRead (bootState s) a = Memory.unlisted s.params.font a := by
  simp only [Config.entry, Config.romMax] at ha hlen
  rw [memRead_bootState_other (by simp only [Config.entry, Config.memSize]; omega)]
  rw [Nat.mod_eq_of_lt (by simp only [Config.memSize]; omega)]

/-- From 0x200 on a boot leaves the image, and 0 after it. -/
theorem memRead_bootState_high {s : State} (hlen : s.params.rom.length ≤ Config.romMax) {j : Nat} (hj : j < Config.romMax) :
    memRead (bootState s) (Config.entry + j) = s.params.rom.getD j 0 := by
  by_cases h : j < s.params.rom.length
  · rw [memRead_bootState_image hlen h, List.getD_eq_getElem _ _ h]
  · simp only [Config.romMax] at hj hlen
    rw [memRead_bootState_other (by simp only [Config.entry, Config.memSize]; omega),
      List.getD_eq_default _ _ (Nat.le_of_not_lt h)]
    exact if_neg (by simp only [Config.entry, Config.memSize, Config.fontSize]; omega)

/-- The boot sequence leaves the values of 10_state.md R42. -/
theorem booted_bootState {s : State} (hlen : s.params.rom.length ≤ Config.romMax) : Booted s (bootState s) where
  font a ha := (memRead_bootState_low hlen (ha.trans (by decide))).trans (if_pos ha)
  gap a hfont ha := (memRead_bootState_low hlen ha).trans (if_neg (Nat.not_lt.mpr hfont))
  rom j hj := memRead_bootState_high hlen hj
  registers x := Vector.getElem_replicate _
  index := rfl
  pc := rfl
  stack k hk := by simp [stackEntry, bootState, hk]
  sp := rfl
  display := pixel_blankGrid
  keys k := Vector.getElem_replicate _
  delay := rfl
  sound := rfl
  run := rfl
  inst := rfl
  wait := rfl
  tone := rfl
  fault := rfl
  batch := rfl
  pend := rfl
  params := rfl

/-- A boot without an image changes nothing in the state after power-on. -/
theorem bootState_reset : bootState State.reset = State.reset := rfl

/-- Settles O41: the state after reset is the one its own boot sequence leaves. -/
theorem resetHasTheResetValues : Obligations.ResetHasTheResetValues := by
  refine ⟨?_, rfl, rfl⟩
  have h : Booted State.reset (bootState State.reset) := booted_bootState (Nat.zero_le _)
  rwa [bootState_reset] at h

/-- Settles O52: the events appended are the `frames`-th free list. -/
theorem waitingOnlyAppendsEvents : Obligations.WaitingOnlyAppendsEvents := by
  intro s hphase hreset
  have hstep : step s = .next (setPhase (awaitFrame (beginStep s)) .input) := by
    simp [step, machineStep, frameStep, hphase, hreset]
  exact ⟨_, Config.arrivals s.frames, hstep, rfl, rfl⟩

end Sys2Proof.Machine

/-! PROOFS. The invariant, kept by every step (10_state.md R36, 60_exceptions.md R243, R252, R263). -/

namespace Sys2Proof.Machine

open Sys2Proof.Claims

/-! ## The two instructions that can raise a fault (60_exceptions.md R243) -/

theorem execRet_cases {s t : State} (h : execRet s = .next t) :
    (s.sp = 0 ∧ t = raiseStackUnderflow s) ∨ (s.sp ≠ 0 ∧ t = popPc s) := by
  unfold execRet at h
  split at h <;> cases h
  · exact .inl ⟨‹_›, rfl⟩
  · exact .inr ⟨‹_›, rfl⟩

theorem execCallNnn_cases {nnn : Addr12} {s t : State} (h : execCallNnn nnn s = .next t) :
    (s.sp = 12 ∧ t = raiseStackOverflow s) ∨ (s.sp ≠ 12 ∧ t = writePc (pushPc s) (zext16 nnn)) := by
  unfold execCallNnn at h
  split at h <;> cases h
  · exact .inl ⟨‹_›, rfl⟩
  · exact .inr ⟨‹_›, rfl⟩

/-! ## What an instruction does to what the invariant speaks of: RAM, the latch with `batch_left`, the records -/

theorem exec_wf {i : Instr} {s t : State} (hs : Memory.wf s.params.font s.mem = true) (h : exec i s = .next t) :
    Memory.wf s.params.font t.mem = true := by
  cases i
  case ret => rwa [execRet_frame h]
  case callNnn => rwa [execCallNnn_frame h]
  case ldVxK => rwa [execLdVxK_frame h]
  case ldVxInd => rwa [execLdVxInd_frame h]
  case ldBVx x =>
    cases h
    exact memWriteBytes_wf hs _
  case ldIndVx x =>
    cases h
    exact memWriteBytes_wf hs _
  all_goals
    cases h
    exact hs

/-- An instruction keeps the latch and `batch_left`, or raises a fault and so ends the batch (60_exceptions.md R243). -/
def KeepsOrRaises (s t : State) : Prop :=
  (t.fault = s.fault ∧ t.batchLeft = s.batchLeft) ∨ (t.fault ≠ .noFault ∧ t.batchLeft = 0)

theorem exec_keepsOrRaises {i : Instr} {s t : State} (h : exec i s = .next t) : KeepsOrRaises s t := by
  cases i
  case ret =>
    obtain ⟨_, rfl⟩ | ⟨_, rfl⟩ := execRet_cases h
    · exact .inr ⟨nofun, rfl⟩
    · exact .inl ⟨rfl, rfl⟩
  case callNnn =>
    obtain ⟨_, rfl⟩ | ⟨_, rfl⟩ := execCallNnn_cases h
    · exact .inr ⟨nofun, rfl⟩
    · exact .inl ⟨rfl, rfl⟩
  case ldVxK => exact .inl (by rw [execLdVxK_frame h]; exact ⟨rfl, rfl⟩)
  case ldVxInd => exact .inl (by rw [execLdVxInd_frame h]; exact ⟨rfl, rfl⟩)
  all_goals
    cases h
    exact .inl ⟨rfl, rfl⟩

theorem emit_debugOut_of_silent {s : State} (hs : s.params.debugEn = false) (r : DebugRecord) :
    (emit s r).debugOut = s.debugOut := by
  simp [hs]

/-- Without `DEBUG_EN` no instruction leaves a record (60_exceptions.md R263). -/
theorem exec_debugOut_of_silent {i : Instr} {s t : State} (hs : s.params.debugEn = false) (h : exec i s = .next t) :
    t.debugOut = s.debugOut := by
  cases i
  case ret =>
    obtain ⟨_, rfl⟩ | ⟨_, rfl⟩ := execRet_cases h
    · exact emit_debugOut_of_silent hs _
    · rfl
  case callNnn =>
    obtain ⟨_, rfl⟩ | ⟨_, rfl⟩ := execCallNnn_cases h
    · exact emit_debugOut_of_silent hs _
    · rfl
  case unknown op =>
    cases h
    exact emit_debugOut_of_silent hs _
  case ldVxK => rw [execLdVxK_frame h]
  case ldVxInd => rw [execLdVxInd_frame h]
  all_goals
    cases h
    rfl

theorem exec_phase {i : Instr} {s t : State} (h : exec i s = .next t) : t.phase = s.phase := by
  rw [exec_frame h]

theorem exec_run {i : Instr} {s t : State} (h : exec i s = .next t) : t.run = s.run := by
  rw [exec_frame h]

/-! ## What the drain leaves unchanged -/

@[simp] theorem drain_mem (s : State) : (drain s).mem = s.mem := by
  rw [drain_frame]

@[simp] theorem drain_batchLeft (s : State) : (drain s).batchLeft = s.batchLeft := by
  rw [drain_frame]

@[simp] theorem drain_debugOut (s : State) : (drain s).debugOut = s.debugOut := by
  rw [drain_frame]

end Sys2Proof.Machine

namespace Sys2Proof.Claims

open Sys2Proof.Machine

/-! ## The states that meet the invariant -/

theorem inv_bootState {s : State} (hsilent : s.params.debugEn = false → s.debugOut = []) : Inv (bootState s) where
  memory := Memory.wf_writeBytes Memory.wf_nil _
  bound := Nat.zero_le _
  faulted _ := rfl
  onlyInBatch h := absurd h (Nat.lt_irrefl 0)
  batchRuns _ := rfl
  quit h := nomatch h
  restart h := nomatch h
  stopped h := nomatch h
  silent := hsilent

theorem Inv.batchLeft_eq_zero {s : State} (hs : Inv s) (hphase : s.phase ≠ .batch) : s.batchLeft = 0 :=
  Nat.eq_zero_of_not_pos fun hpos => hphase (hs.onlyInBatch hpos)

/-- A batch that cannot go on has no slot left: what else stops it, a fault, has set `batch_left` to 0. -/
theorem Inv.batchLeft_eq_zero_of_not_canCycle {s : State} (hs : Inv s) (hphase : s.phase = .batch)
    (hcycle : canCycle s = false) : s.batchLeft = 0 := by
  by_cases hfault : s.fault = .noFault
  · simpa [canCycle, hs.batchRuns hphase, hfault] using hcycle
  · exact hs.faulted hfault

/-- A step that does no boot and runs no instruction keeps RAM, the parameters and `batch_left`, and records nothing. -/
structure Quiet (s t : State) : Prop where
  memory : t.mem = s.mem
  params : t.params = s.params
  batchLeft : t.batchLeft = s.batchLeft
  debugOut : t.debugOut = []

/-- Between batches such a step has only to leave `run` as its new phase allows it. -/
theorem Inv.quiet {s t : State} (hs : Inv s) (h : Quiet s t) (hleft : s.batchLeft = 0) (hphase : t.phase ≠ .batch)
    (hquit : t.run = .quit → t.phase = .execute ∨ t.phase = .stopped)
    (hrestart : t.run = .restart → t.phase = .execute) (hstopped : t.phase = .stopped → t.run = .quit) : Inv t where
  memory := by rw [h.memory, h.params]; exact hs.memory
  bound := by rw [h.batchLeft, hleft]; exact Nat.zero_le _
  faulted _ := h.batchLeft.trans hleft
  onlyInBatch hpos := absurd (h.batchLeft.trans hleft) (Nat.ne_of_gt hpos)
  batchRuns hp := absurd hp hphase
  quit := hquit
  restart := hrestart
  stopped := hstopped
  silent _ := h.debugOut

/-- Where `run` is neither `Quit` nor `Restart` it may stay so in every phase that is no batch and no stop. -/
theorem Inv.quiet_of_run {s t : State} (hs : Inv s) (h : Quiet s t) (hleft : s.batchLeft = 0)
    (hrun : s.run ≠ .quit ∧ s.run ≠ .restart) (hsame : t.run = s.run) (hphase : t.phase ≠ .batch ∧ t.phase ≠ .stopped) :
    Inv t :=
  hs.quiet h hleft hphase.1 (fun e => absurd (hsame.symm.trans e) hrun.1) (fun e => absurd (hsame.symm.trans e) hrun.2)
    (fun e => absurd e hphase.2)

/-- Before the drain and after the batch of a frame `run` is neither `Quit` nor `Restart`. -/
theorem Inv.run_ne {s : State} (hs : Inv s) (hexecute : s.phase ≠ .execute) (hstopped : s.phase ≠ .stopped) :
    s.run ≠ .quit ∧ s.run ≠ .restart :=
  ⟨fun h => (hs.quit h).elim hexecute hstopped, fun h => hexecute (hs.restart h)⟩

/-- A step between frames, or after the batch of one, that leaves `run` alone. -/
theorem Inv.quiet_of_phase {s t : State} (hs : Inv s) (hp : s.phase ∈ [Phase.pad, .tick, .present]) (h : Quiet s t)
    (hsame : t.run = s.run) (hphase : t.phase ≠ .batch ∧ t.phase ≠ .stopped) : Inv t := by
  have hne : ∀ p ∉ [Phase.pad, .tick, .present], s.phase ≠ p := fun p hn e => hn (e ▸ hp)
  exact hs.quiet_of_run h (hs.batchLeft_eq_zero (hne _ (by decide))) (hs.run_ne (hne _ (by decide)) (hne _ (by decide)))
    hsame hphase

/-! ## One lemma per step of the frame that does more than go on to the next -/

theorem Inv.after_drain {s : State} (hs : Inv s) (hphase : s.phase = .input) :
    Inv (setPhase (drain (beginStep s)) .execute) := by
  have hleft : s.batchLeft = 0 := hs.batchLeft_eq_zero (by simp [hphase])
  have hquiet : Quiet s (setPhase (drain (beginStep s)) .execute) := by constructor <;> simp
  exact hs.quiet hquiet hleft nofun (fun _ => .inl rfl) (fun _ => rfl) nofun

theorem Inv.after_startBatch {s : State} (hs : Inv s) (hrun : s.run = .running) (hfault : s.fault = .noFault) :
    Inv (setPhase (startBatch (beginStep s)) .batch) where
  memory := hs.memory
  bound := Nat.le_refl _
  faulted h := absurd hfault h
  onlyInBatch _ := rfl
  batchRuns _ := hrun
  quit h := nomatch hrun.symm.trans h
  restart h := nomatch hrun.symm.trans h
  stopped h := nomatch h
  silent _ := rfl

/-- After the count a cycle has left a slot less, or none where it raised a fault. -/
theorem countCycle_batchLeft_cases {s u : State} (hfault : s.fault = .noFault) (h : KeepsOrRaises s u) :
    (u.fault = .noFault ∧ (countCycle u).batchLeft = s.batchLeft - 1) ∨
      (u.fault ≠ .noFault ∧ (countCycle u).batchLeft = 0) := by
  obtain ⟨hf, hb⟩ | ⟨hf, hb⟩ := h
  · exact .inl ⟨hf.trans hfault, by simp [hf, hfault, hb]⟩
  · exact .inr ⟨hf, by simp [hf, hb]⟩

theorem Inv.after_instructionCycle {s u : State} {i : Instr} (hs : Inv s) (hphase : s.phase = .batch) (hfault : s.fault = .noFault)
    (hu : exec i (beginCycle (beginStep s)) = .next u) : Inv (countCycle u) := by
  have hparams : u.params = s.params := (exec_params hu).trans (beginCycle_params _)
  have hbatch : u.phase = .batch := (exec_phase hu).trans hphase
  have hrun : u.run = .running := (exec_run hu).trans (hs.batchRuns hphase)
  have hleft : (u.fault = .noFault ∧ (countCycle u).batchLeft = s.batchLeft - 1) ∨
      (u.fault ≠ .noFault ∧ (countCycle u).batchLeft = 0) :=
    countCycle_batchLeft_cases (s := beginCycle (beginStep s)) hfault (exec_keepsOrRaises hu)
  constructor
  case memory =>
    rw [countCycle_mem, countCycle_params, hparams]
    exact exec_wf (s := beginCycle (beginStep s)) hs.memory hu
  case bound =>
    have hbound := hs.bound
    rw [countCycle_params, hparams]
    omega
  case faulted => exact fun h => hleft.elim (fun e => absurd e.1 h) (fun e => e.2)
  case onlyInBatch => exact fun _ => hbatch
  case batchRuns => exact fun _ => hrun
  case quit => simp [hrun]
  case restart => simp [hrun]
  case stopped => simp [hbatch]
  case silent =>
    intro h
    rw [countCycle_params, hparams] at h
    have hdebug : u.debugOut = (beginCycle (beginStep s)).debugOut := exec_debugOut_of_silent h hu
    simp [hdebug, h]

/-- Settles O55: only the drain, the start of a batch and a cycle have more to keep than a step that leaves `run` alone. -/
theorem stepKeepsTheInvariant : Obligations.StepKeepsTheInvariant := by
  intro s t hs h
  obtain ⟨_, rfl⟩ | ⟨_, _, _, rfl⟩ | ⟨_, hframe⟩ := step_cases h
  · exact hs
  · exact inv_bootState fun _ => rfl
  · obtain ⟨hp, rfl⟩ | ⟨hp, rfl⟩ | ⟨hp, hrun, rfl⟩ | ⟨_, _, _, rfl⟩ | ⟨hp, hrun, rfl⟩ | ⟨_, hrun, hfault, rfl⟩ |
      ⟨hp, _, hfault, _, u, hu, rfl⟩ | ⟨hp, hcycle, rfl⟩ | ⟨hp, rfl⟩ | ⟨hp, rfl⟩ := hframe
    · exact hs.quiet_of_phase (by simp [hp]) ⟨rfl, rfl, rfl, rfl⟩ rfl ⟨nofun, nofun⟩
    · exact hs.after_drain hp
    · exact hs.quiet ⟨rfl, rfl, rfl, rfl⟩ (hs.batchLeft_eq_zero (by simp [hp])) nofun (fun _ => .inr rfl)
        (fun h => nomatch hrun.symm.trans h) (fun _ => hrun)
    · exact inv_bootState fun _ => rfl
    · have hne : s.run ≠ .quit ∧ s.run ≠ .restart := by rcases hrun with hrun | ⟨hrun, _⟩ <;> simp [hrun]
      exact hs.quiet_of_run ⟨rfl, rfl, rfl, rfl⟩ (hs.batchLeft_eq_zero (by simp [hp])) hne rfl ⟨nofun, nofun⟩
    · exact hs.after_startBatch hrun hfault
    · exact hs.after_instructionCycle hp hfault hu
    · exact hs.quiet_of_run ⟨rfl, rfl, rfl, rfl⟩ (hs.batchLeft_eq_zero_of_not_canCycle hp hcycle)
        (hs.run_ne (by simp [hp]) (by simp [hp])) rfl ⟨nofun, nofun⟩
    · exact hs.quiet_of_phase (by simp [hp]) ⟨rfl, rfl, rfl, rfl⟩ rfl ⟨nofun, nofun⟩
    · exact hs.quiet_of_phase (by simp [hp]) ⟨rfl, rfl, rfl, rfl⟩ rfl ⟨nofun, nofun⟩

/-- Settles O54: the state after reset is one the boot sequence leaves, and no key is recorded in it. -/
theorem resetMeetsTheInvariants : Obligations.ResetMeetsTheInvariants :=
  ⟨bootState_reset ▸ inv_bootState fun _ => rfl, fun h => absurd rfl h⟩

end Sys2Proof.Claims

/-! PROOFS. The timers increase only by FX15 and FX18 (10_state.md R43 (f)). -/

namespace Sys2Proof.Machine

open Sys2Proof.Claims

/-- Of the instructions only FX15 writes `DT`, and only FX18 writes `ST` (45_keypad_timers.md R224, R225). -/
theorem exec_timers {i : Instr} {s t : State} (h : exec i s = .next t) :
    (t.dt = s.dt ∨ ∃ x, i = .ldDtVx x) ∧ (t.st = s.st ∨ ∃ x, i = .ldStVx x) := by
  cases i
  case ret => rw [execRet_frame h]; exact ⟨.inl rfl, .inl rfl⟩
  case callNnn => rw [execCallNnn_frame h]; exact ⟨.inl rfl, .inl rfl⟩
  case ldVxK => rw [execLdVxK_frame h]; exact ⟨.inl rfl, .inl rfl⟩
  case ldVxInd => rw [execLdVxInd_frame h]; exact ⟨.inl rfl, .inl rfl⟩
  case ldDtVx x => cases h; exact ⟨.inr ⟨x, rfl⟩, .inl rfl⟩
  case ldStVx x => cases h; exact ⟨.inl rfl, .inr ⟨x, rfl⟩⟩
  all_goals
    cases h
    exact ⟨.inl rfl, .inl rfl⟩

@[simp] theorem drain_dt (s : State) : (drain s).dt = s.dt := by
  rw [drain_frame]

@[simp] theorem drain_st (s : State) : (drain s).st = s.st := by
  rw [drain_frame]

/-- What `TimerTick` makes of a timer is no more than it was (60_exceptions.md R254). -/
theorem decrement_le (b : Byte) : (if b = 0 then 0 else b - 1) ≤ b := by
  split <;> bv_omega

/-- A step increases neither timer, or it is an instruction cycle. -/
theorem step_timers {s t : State} (h : step s = .next t) :
    (t.dt ≤ s.dt ∧ t.st ≤ s.st) ∨
      (CycleNext s ∧ ∃ u, exec (decodeWord (fetchWord s)) (beginCycle (beginStep s)) = .next u ∧ t = countCycle u) := by
  have hsame : s.dt ≤ s.dt ∧ s.st ≤ s.st := ⟨BitVec.le_refl _, BitVec.le_refl _⟩
  have hzero : (0 : Byte) ≤ s.dt ∧ (0 : Byte) ≤ s.st := ⟨Nat.zero_le _, Nat.zero_le _⟩
  obtain ⟨_, rfl⟩ | ⟨_, _, _, rfl⟩ | ⟨hreset, hframe⟩ := step_cases h
  · exact .inl hsame
  · exact .inl hzero
  · obtain ⟨_, rfl⟩ | ⟨_, rfl⟩ | ⟨_, _, rfl⟩ | ⟨_, _, _, rfl⟩ | ⟨_, _, rfl⟩ | ⟨_, _, _, rfl⟩ |
      ⟨hp, hrun, hfault, hpos, hu⟩ | ⟨_, _, rfl⟩ | ⟨_, rfl⟩ | ⟨_, rfl⟩ := hframe
    · exact .inl hsame
    · exact .inl (by simp)
    · exact .inl hsame
    · exact .inl hzero
    · exact .inl hsame
    · exact .inl hsame
    · exact .inr ⟨⟨hp, hrun, hfault, hpos, hreset⟩, hu⟩
    · exact .inl hsame
    · exact .inl ⟨decrement_le _, decrement_le _⟩
    · exact .inl hsame

/-- Settles O57: a step that increases a timer is a cycle, and of the instructions only its load writes it. -/
theorem timersIncreaseOnlyByTheirLoads : Obligations.TimersIncreaseOnlyByTheirLoads := by
  intro s t h
  obtain ⟨hdt, hst⟩ | ⟨hcycle, u, hu, rfl⟩ := step_timers h
  · exact ⟨fun hlt => absurd hlt (BitVec.not_lt.mpr hdt), fun hlt => absurd hlt (BitVec.not_lt.mpr hst)⟩
  · have hinstr : InstrAt s (decodeWord (fetchWord s)) := rfl
    obtain ⟨hdt, hst⟩ := exec_timers hu
    refine ⟨fun hlt => ⟨hcycle, ?_⟩, fun hlt => ⟨hcycle, ?_⟩⟩
    · obtain hsame | ⟨x, hx⟩ := hdt
      · simp [hsame] at hlt
      · exact ⟨x, hx ▸ hinstr⟩
    · obtain hsame | ⟨x, hx⟩ := hst
      · simp [hsame] at hlt
      · exact ⟨x, hx ▸ hinstr⟩

end Sys2Proof.Machine

/-! PROOFS. Bits 15 to 12 of `pc` and of the return addresses decide nothing (90_conflicts.md C2, D2): two states that differ only
there go on side by side, one lemma per function the step is made of. -/

namespace Sys2Proof.Machine

open Sys2Proof.Claims

/-! ## Addresses and states alike below bit 12 -/

/-- Two addresses of one byte of RAM (20_memory.md R62). -/
def SameByte (a b : Word) : Prop := a.toNat % 4096 = b.toNat % 4096

theorem SameByte.add_two {a b : Word} (h : SameByte a b) : SameByte (a + 2) (b + 2) := by
  unfold SameByte at *
  bv_omega

theorem SameByte.sub_two {a b : Word} (h : SameByte a b) : SameByte (a - 2) (b - 2) := by
  unfold SameByte at *
  bv_omega

/-- `s` with `pc`, the return addresses and the records replaced: all that `SameUpToTopBits` lets differ. -/
def relocate (s : State) (p : Word) (st : Vector Word 12) (d : List DebugRecord) : State :=
  { s with pc := p, stack := st, debugOut := d }

theorem writeVFrom_relocate (s : State) (k : Nat) (bs : List Byte) (p : Word) (st : Vector Word 12) (d : List DebugRecord) :
    writeVFrom (relocate s p st d) k bs = relocate (writeVFrom s k bs) p st d := by
  induction bs generalizing s k with
  | nil => rfl
  | cons b rest ih => exact ih (writeV s (BitVec.ofNat 4 k) b) (k + 1)

theorem applyEvents_relocate (evs : List Event) (s : State) (p : Word) (st : Vector Word 12) (d : List DebugRecord) :
    evs.foldl applyEvent (relocate s p st d) = relocate (evs.foldl applyEvent s) p st d := by
  induction evs generalizing s with
  | nil => rfl
  | cons e rest ih =>
    have he : applyEvent (relocate s p st d) e = relocate (applyEvent s e) p st d := by cases e <;> rfl
    rw [List.foldl_cons, List.foldl_cons, he, ih]

theorem sameUpToTopBits_iff {s s' : State} : SameUpToTopBits s s' ↔
    ∃ p st d, s' = relocate s p st d ∧ SameByte s.pc p ∧ ∀ k, SameByte (stackEntry s k) (stackEntry s' k) := by
  constructor
  · rintro ⟨hframe, hpc, hstack⟩
    exact ⟨s'.pc, s'.stack, s'.debugOut, hframe, hpc, hstack⟩
  · rintro ⟨p, st, d, rfl, hpc, hstack⟩
    exact ⟨rfl, hpc, hstack⟩

section
variable {s s' : State}

theorem fetchWord_upToTopBits (h : SameUpToTopBits s s') : fetchWord s' = fetchWord s := by
  obtain ⟨p, st, d, rfl, hpc, -⟩ := sameUpToTopBits_iff.mp h
  have hlo : p.toNat % Config.memSize = s.pc.toNat % Config.memSize := hpc.symm
  have hhi : (p.toNat + 1) % Config.memSize = (s.pc.toNat + 1) % Config.memSize := Nat.ModEq.add_right 1 hlo
  simp only [fetchWord, memRead, relocate, hlo, hhi]

theorem beginStep_upToTopBits (h : SameUpToTopBits s s') : SameUpToTopBits (beginStep s) (beginStep s') := by
  obtain ⟨p, st, d, rfl, hpc, hstack⟩ := sameUpToTopBits_iff.mp h
  exact ⟨rfl, hpc, hstack⟩

theorem beginCycle_upToTopBits (h : SameUpToTopBits s s') : SameUpToTopBits (beginCycle s) (beginCycle s') := by
  have hfetch := fetchWord_upToTopBits h
  obtain ⟨p, st, d, rfl, hpc, hstack⟩ := sameUpToTopBits_iff.mp h
  refine ⟨?_, hpc.add_two, hstack⟩
  unfold beginCycle
  rw [hfetch]
  rfl

theorem countCycle_upToTopBits (h : SameUpToTopBits s s') : SameUpToTopBits (countCycle s) (countCycle s') := by
  obtain ⟨p, st, d, rfl, hpc, hstack⟩ := sameUpToTopBits_iff.mp h
  exact ⟨rfl, hpc, hstack⟩

theorem skipIf_upToTopBits (h : SameUpToTopBits s s') (c : Bool) : SameUpToTopBits (skipIf c s) (skipIf c s') := by
  obtain ⟨p, st, d, rfl, hpc, hstack⟩ := sameUpToTopBits_iff.mp h
  cases c
  · exact ⟨rfl, hpc, hstack⟩
  · exact ⟨rfl, hpc.add_two, hstack⟩

theorem pushPc_upToTopBits (h : SameUpToTopBits s s') (hsp : s.sp.val < 12) : SameUpToTopBits (pushPc s) (pushPc s') := by
  obtain ⟨p, st, d, rfl, hpc, hstack⟩ := sameUpToTopBits_iff.mp h
  refine ⟨rfl, hpc, fun k => ?_⟩
  have hpush : stackEntry (pushPc (relocate s p st d)) k = if k = s.sp.val then p else stackEntry (relocate s p st d) k :=
    stackEntry_pushPc (relocate s p st d) k hsp
  rw [stackEntry_pushPc s k hsp, hpush]
  by_cases hk : k = s.sp.val
  · rw [if_pos hk, if_pos hk]
    exact hpc
  · rw [if_neg hk, if_neg hk]
    exact hstack k

theorem drain_upToTopBits (h : SameUpToTopBits s s') : SameUpToTopBits (drain s) (drain s') := by
  obtain ⟨p, st, d, rfl, hpc, hstack⟩ := sameUpToTopBits_iff.mp h
  have hdrain : drain (relocate s p st d) = relocate (drain s) p st d := by
    change { s.pend.foldl applyEvent (relocate s p st d) with pend := [] } = _
    rw [applyEvents_relocate]
    rfl
  rw [hdrain, drain_frame]
  exact ⟨rfl, hpc, hstack⟩

end

/-! ## Results alike below bit 12 -/

/-- When the one goes on to a state, the other goes on to one that differs from it in the top bits only. -/
def NextUpToTopBits (r r' : Result) : Prop := ∀ t, r = .next t → ∃ t', r' = .next t' ∧ SameUpToTopBits t t'

theorem NextUpToTopBits.next {t t' : State} (h : SameUpToTopBits t t') : NextUpToTopBits (.next t) (.next t') := by
  intro u hu
  cases hu
  exact ⟨t', rfl, h⟩

theorem NextUpToTopBits.ite (c : Prop) [Decidable c] {r₁ r₂ r₁' r₂' : Result}
    (h₁ : c → NextUpToTopBits r₁ r₁') (h₂ : ¬ c → NextUpToTopBits r₂ r₂') :
    NextUpToTopBits (if c then r₁ else r₂) (if c then r₁' else r₂') := by
  by_cases h : c
  · rw [if_pos h, if_pos h]
    exact h₁ h
  · rw [if_neg h, if_neg h]
    exact h₂ h

theorem NextUpToTopBits.onNext {r r' : Result} {f : State → State} (h : NextUpToTopBits r r')
    (hf : ∀ {t t'}, SameUpToTopBits t t' → SameUpToTopBits (f t) (f t')) : NextUpToTopBits (onNext r f) (onNext r' f) := by
  intro t ht
  obtain ⟨u, hu, rfl⟩ := onNext_eq_next.mp ht
  obtain ⟨u', hu', hsame⟩ := h u hu
  exact ⟨f u', onNext_eq_next.mpr ⟨u', hu', rfl⟩, hf hsame⟩

section
variable {s s' : State}

theorem execRet_upToTopBits (h : SameUpToTopBits s s') : NextUpToTopBits (execRet s) (execRet s') := by
  obtain ⟨p, st, d, rfl, hpc, hstack⟩ := sameUpToTopBits_iff.mp h
  exact .ite (s.sp = 0) (fun _ => .next ⟨rfl, hpc, hstack⟩) (fun _ => .next ⟨rfl, hstack _, hstack⟩)

theorem execCallNnn_upToTopBits (nnn : Addr12) (h : SameUpToTopBits s s') :
    NextUpToTopBits (execCallNnn nnn s) (execCallNnn nnn s') := by
  have hpush : s.sp ≠ 12 → SameUpToTopBits (pushPc s) (pushPc s') := fun hsp => pushPc_upToTopBits h (by omega)
  obtain ⟨p, st, d, rfl, hpc, hstack⟩ := sameUpToTopBits_iff.mp h
  exact .ite (s.sp = 12) (fun _ => .next ⟨rfl, hpc, hstack⟩) (fun hsp => .next ⟨rfl, rfl, (hpush hsp).2.2⟩)

theorem execLdVxK_upToTopBits (x : Nibble) (h : SameUpToTopBits s s') : NextUpToTopBits (execLdVxK x s) (execLdVxK x s') := by
  obtain ⟨p, st, d, rfl, hpc, hstack⟩ := sameUpToTopBits_iff.mp h
  unfold execLdVxK
  rw [show (relocate s p st d).wk = s.wk from rfl, show lowestKeyHeld (relocate s p st d) = lowestKeyHeld s from rfl]
  cases s.wk with
  | none =>
    cases lowestKeyHeld s with
    | none => exact .next ⟨rfl, hpc.sub_two, hstack⟩
    | some k0 => exact .next ⟨rfl, hpc.sub_two, hstack⟩
  | seen k =>
    exact .ite (keyHeld s k = true) (fun _ => .next ⟨rfl, hpc.sub_two, hstack⟩) (fun _ => .next ⟨rfl, hpc, hstack⟩)

theorem execLdVxInd_upToTopBits (x : Nibble) (h : SameUpToTopBits s s') : NextUpToTopBits (execLdVxInd x s) (execLdVxInd x s') := by
  obtain ⟨p, st, d, rfl, hpc, hstack⟩ := sameUpToTopBits_iff.mp h
  have hload : writeVFrom (relocate s p st d) 0
      (memReadBytes (relocate s p st d) (dataAddress (relocate s p st d)) (x.toNat + 1)) =
      relocate (writeVFrom s 0 (memReadBytes s (dataAddress s) (x.toNat + 1))) p st d := writeVFrom_relocate ..
  unfold execLdVxInd
  rw [hload, writeVFrom_frame]
  exact .next ⟨rfl, hpc, hstack⟩

theorem exec_upToTopBits (i : Instr) (h : SameUpToTopBits s s') : NextUpToTopBits (exec i s) (exec i s') := by
  obtain ⟨p, st, d, rfl, hpc, hstack⟩ := sameUpToTopBits_iff.mp h
  cases i
  case ret => exact execRet_upToTopBits h
  case callNnn nnn => exact execCallNnn_upToTopBits nnn h
  case ldVxK x => exact execLdVxK_upToTopBits x h
  case ldVxInd x => exact execLdVxInd_upToTopBits x h
  case jpNnn => exact .next ⟨rfl, rfl, hstack⟩
  case jpV0Nnn => exact .next ⟨rfl, rfl, hstack⟩
  case seVxNn => exact .next (skipIf_upToTopBits h _)
  case sneVxNn => exact .next (skipIf_upToTopBits h _)
  case seVxVy => exact .next (skipIf_upToTopBits h _)
  case sneVxVy => exact .next (skipIf_upToTopBits h _)
  case skpVx => exact .next (skipIf_upToTopBits h _)
  case sknpVx => exact .next (skipIf_upToTopBits h _)
  all_goals exact .next ⟨rfl, hpc, hstack⟩

/-! ## The step -/

theorem instructionCycle_upToTopBits (h : SameUpToTopBits s s') : NextUpToTopBits (instructionCycle s) (instructionCycle s') := by
  unfold instructionCycle
  rw [fetchWord_upToTopBits h]
  exact (exec_upToTopBits _ (beginCycle_upToTopBits h)).onNext countCycle_upToTopBits

theorem boot_upToTopBits (h : SameUpToTopBits s s') : NextUpToTopBits (boot s) (boot s') := by
  obtain ⟨p, st, d, rfl, _, _⟩ := sameUpToTopBits_iff.mp h
  exact .ite (s.params.rom.length > Config.romMax) (fun _ _ h => nomatch h) (fun _ => .next ⟨rfl, rfl, fun _ => rfl⟩)

theorem setPhase_upToTopBits (h : SameUpToTopBits s s') (ph : Phase) : SameUpToTopBits (setPhase s ph) (setPhase s' ph) := by
  obtain ⟨p, st, d, rfl, hpc, hstack⟩ := sameUpToTopBits_iff.mp h
  exact ⟨rfl, hpc, hstack⟩

theorem selectBatch_upToTopBits (h : SameUpToTopBits s s') : NextUpToTopBits (selectBatch s) (selectBatch s') := by
  have hboot := boot_upToTopBits h
  obtain ⟨p, st, d, rfl, hpc, hstack⟩ := sameUpToTopBits_iff.mp h
  unfold selectBatch
  rw [show (relocate s p st d).run = s.run from rfl]
  cases s.run with
  | quit => exact .next ⟨rfl, hpc, hstack⟩
  | restart => exact hboot
  | paused => exact .next ⟨rfl, hpc, hstack⟩
  | running =>
    exact .ite (s.fault = .noFault) (fun _ => .next ⟨rfl, hpc, hstack⟩) (fun _ => .next ⟨rfl, hpc, hstack⟩)

theorem batchStep_upToTopBits (h : SameUpToTopBits s s') : NextUpToTopBits (batchStep s) (batchStep s') := by
  have hcycle := instructionCycle_upToTopBits h
  have hphase := setPhase_upToTopBits h .tick
  obtain ⟨p, st, d, rfl, _, _⟩ := sameUpToTopBits_iff.mp h
  exact .ite (canCycle s = true) (fun _ => hcycle) (fun _ => .next hphase)

theorem frameStep_upToTopBits (h : SameUpToTopBits s s') : NextUpToTopBits (frameStep s) (frameStep s') := by
  have hdrain := drain_upToTopBits h
  have hselect := selectBatch_upToTopBits h
  have hbatch := batchStep_upToTopBits h
  obtain ⟨p, st, d, rfl, hpc, hstack⟩ := sameUpToTopBits_iff.mp h
  unfold frameStep
  rw [show (relocate s p st d).phase = s.phase from rfl]
  cases s.phase with
  | pad => exact .next ⟨rfl, hpc, hstack⟩
  | input => exact .next (setPhase_upToTopBits hdrain .execute)
  | execute => exact hselect
  | batch => exact hbatch
  | tick => exact .next ⟨rfl, hpc, hstack⟩
  | present => exact .next ⟨rfl, hpc, hstack⟩
  | stopped => exact .next h

theorem step_upToTopBits (h : SameUpToTopBits s s') : NextUpToTopBits (step s) (step s') := by
  have hboot := boot_upToTopBits (beginStep_upToTopBits h)
  have hframe := frameStep_upToTopBits (beginStep_upToTopBits h)
  obtain ⟨p, st, d, rfl, _, _⟩ := sameUpToTopBits_iff.mp h
  exact .ite (s.phase = .stopped) (fun _ => .next h) fun _ => .ite (s.resetIn = some 0) (fun _ => hboot) (fun _ => hframe)

end

/-- Settles O59, by induction on the length of the run. -/
theorem topPcBitsAreUnobservable : Obligations.TopPcBitsAreUnobservable := by
  intro s s' h k
  induction k generalizing s s' with
  | zero =>
    intro t ht
    cases ht
    exact ⟨s', rfl, h⟩
  | succ k ih =>
    intro t ht
    obtain ⟨u, hu, hrest⟩ := run_succ_eq_next.mp ht
    obtain ⟨u', hu', hsame⟩ := step_upToTopBits h u hu
    rw [run_succ hu']
    exact ih u u' hsame t hrest

end Sys2Proof.Machine

/-! PROOFS. What a store leaves to be read, the word placed for the next fetch, and what no step of a batch writes (20_memory.md
R62, R63, R68, R70). -/

namespace Sys2Proof.Machine

open Sys2Proof.Claims

/-- Settles O11: the law of a read after a byte store. -/
theorem readAfterWrite : Obligations.ReadAfterWrite := fun _ _ _ _ hs => memRead_memWrite hs

/-! ## The placed word (log 5) -/

/-- What a row of the opcode table decodes to is what its word decodes to. -/
theorem decodeTableWord_eq_some {w : Nat} {i : Instr} :
    decodeTableWord 16 w = some i ↔ w < 65536 ∧ decodeWord (BitVec.ofNat 16 w) = i := by
  simp [decodeTableWord, decode]

/-- The instruction at `pc` is the one the fetched word decodes to. -/
theorem instrAt_iff {s : State} {i : Instr} : InstrAt s i ↔ decodeWord (fetchWord s) = i := decode_two_bytes ..

/-- The two bytes of a placed word are read back at `pc` and `pc + 1`, the wrap at the top of RAM included (20_memory.md R63). -/
theorem fetchWord_placeWord {s : State} (hs : Memory.wf s.params.font s.mem = true) (op : Word) :
    fetchWord (placeWord s op) = op := by
  have hread {k : Nat} (hk : k < 2) :
      memRead (placeWord s op) (s.pc.toNat + k) = [hiByte op, loByte op][k] :=
    memRead_memWriteBytes hs [hiByte op, loByte op] (by simp) hk
  calc fetchWord (placeWord s op)
      = wordOfBytes (memRead (placeWord s op) (s.pc.toNat + 0)) (memRead (placeWord s op) (s.pc.toNat + 1)) := rfl
    _ = wordOfBytes (hiByte op) (loByte op) := congrArg₂ wordOfBytes (hread (by decide)) (hread (by decide))
    _ = op := wordOfBytes_hiByte_loByte op

theorem cycleNext_placeWord (s : State) (op : Word) : CycleNext (placeWord s op) :=
  ⟨rfl, rfl, rfl, Nat.lt_of_lt_of_le Nat.zero_lt_one (Nat.le_max_right ..), nofun⟩

/-- Settles O13: the fetch reads the placed word back, and `placeWord` leaves the machine before a fetch. -/
theorem placedWordIsRun : Obligations.PlacedWordIsRun := by
  intro s w i hs hw
  obtain ⟨_, hdecode⟩ := decodeTableWord_eq_some.mp hw
  refine ⟨instrAt_iff.mpr ?_, cycleNext_placeWord s _⟩
  rwa [State.withFetchWord, fetchWord_placeWord hs]

/-! ## A step inside a batch -/

/-- A step inside a batch is an instruction cycle, or it goes on to the timer tick (60_exceptions.md R250, log 11). -/
theorem step_cases_of_batch {s t : State} (hphase : s.phase = .batch) (hreset : s.resetIn ≠ some 0) (h : step s = .next t) :
    (∃ u, exec (decodeWord (fetchWord s)) (beginCycle (beginStep s)) = .next u ∧ t = countCycle u) ∨
      t = setPhase (beginStep s) .tick := by
  have hcases := step_cases h
  simp only [hphase, hreset, ne_eq, not_false_eq_true, reduceCtorEq, false_and, and_false, true_and,
    false_or, or_false] at hcases
  obtain ⟨_, _, _, hcycle⟩ | ⟨_, htick⟩ := hcases
  · exact .inl hcycle
  · exact .inr htick

/-- No instruction writes `keys`, `run`, `pend`, `tone` or `display_out` (20_memory.md R68). -/
theorem exec_inputs_outputs {i : Instr} {s t : State} (h : exec i s = .next t) :
    t.keys = s.keys ∧ t.run = s.run ∧ t.pend = s.pend ∧ t.tone = s.tone ∧ t.displayOut = s.displayOut := by
  rw [exec_frame h]
  exact ⟨rfl, rfl, rfl, rfl, rfl⟩

/-- Settles O48: no instruction writes the inputs or the outputs, only FX15 writes `DT` and only FX18 writes `ST`. -/
theorem inputIsConstantInABatch : Obligations.InputIsConstantInABatch := by
  intro s t hphase hreset h
  obtain ⟨u, hu, rfl⟩ | rfl := step_cases_of_batch hphase hreset h
  · obtain ⟨hkeys, hrun, hpend, htone, hdisplay⟩ := exec_inputs_outputs hu
    obtain ⟨hdt, hst⟩ := exec_timers hu
    refine ⟨hkeys, hrun, hpend, htone, hdisplay, fun hno => ?_, fun hno => ?_⟩
    · exact hdt.resolve_right fun ⟨x, hx⟩ => hno x (instrAt_iff.mpr hx)
    · exact hst.resolve_right fun ⟨x, hx⟩ => hno x (instrAt_iff.mpr hx)
  · exact ⟨rfl, rfl, rfl, rfl, rfl, fun _ => rfl, fun _ => rfl⟩

end Sys2Proof.Machine

/-! PROOFS. The encoder and the decoder undo each other, a word selects the one row it matches, and the words of no row
(30_encoding.md R91, R94, R100, R101). -/

namespace Sys2Proof

/-! ## A word from the fields its format names (R91) -/

section
variable {op : Word} {m : Nibble}

theorem formatNnn_of_major (hm : fieldMajor op = m) : formatNnn m (fieldNnn op) = op := by
  rw [← hm, formatNnn_fields]

theorem fieldNnn_eq_iff {nnn : Addr12} (hm : fieldMajor op = m) : fieldNnn op = nnn ↔ op = formatNnn m nnn :=
  ⟨fun h => h ▸ (formatNnn_of_major hm).symm, fun h => h ▸ fieldNnn_formatNnn m nnn⟩

theorem formatXnn_of_major (hm : fieldMajor op = m) : formatXnn m (fieldX op) (fieldNn op) = op := by
  rw [← hm, formatXnn_fields]

theorem formatXyn_of_major (hm : fieldMajor op = m) : formatXyn m (fieldX op) (fieldY op) (fieldN op) = op := by
  rw [← hm, formatXyn_fields]

theorem formatXff_of_fields {f : Byte} (h : fieldMajor op = m ∧ fieldNn op = f) : formatXnn m (fieldX op) f = op := by
  obtain ⟨rfl, rfl⟩ := h
  exact formatXnn_fields op

theorem formatXyf_of_fields {f : Nibble} (h : fieldMajor op = m ∧ fieldN op = f) :
    formatXyn m (fieldX op) (fieldY op) f = op := by
  obtain ⟨rfl, rfl⟩ := h
  exact formatXyn_fields op

/-! ## What a match with a row of R100 says of the fields, mask by mask -/

theorem fieldMajor_of_mask (h : op &&& 0xF000 = formatNnn m 0) : fieldMajor op = m := by
  rw [← formatNnn_fields op, Laws.EncodesItsRow.formatNnn_row] at h
  simpa using congrArg fieldMajor h

theorem fields_of_mask_xff {f : Byte} (h : op &&& 0xF0FF = formatXnn m 0 f) : fieldMajor op = m ∧ fieldNn op = f := by
  rw [← formatXnn_fields op, Laws.EncodesItsRow.formatXff_row] at h
  exact ⟨by simpa using congrArg fieldMajor h, by simpa using congrArg fieldNn h⟩

theorem fields_of_mask_xyf {f : Nibble} (h : op &&& 0xF00F = formatXyn m 0 0 f) : fieldMajor op = m ∧ fieldN op = f := by
  rw [← formatXyn_fields op, Laws.EncodesItsRow.formatXyf_row] at h
  exact ⟨by simpa using congrArg fieldMajor h, by simpa using congrArg fieldN h⟩

theorem eq_of_mask_all {w : Word} (h : op &&& 0xFFFF = w) : w = op := h.symm.trans BitVec.and_allOnes

end

/-! ## Rows and instructions -/

theorem row_mem_opcodeTable {i : Instr} {r : OpcodeRow} (h : i.row = some r) : r ∈ opcodeTable := by
  cases i <;> cases h <;> decide

theorem eq_unknown_of_row_eq_none {i : Instr} (h : i.row = none) : i = .unknown (encodeWord i) := by
  cases i
  case unknown => rfl
  all_goals cases h

section
open Laws.EncodesItsRow

theorem encodesItsRow : ∀ i : Instr, Statement i
  | .cls => cls
  | .ret => ret
  | .jpNnn _ => jpNnn _
  | .callNnn _ => callNnn _
  | .seVxNn _ _ => seVxNn _ _
  | .sneVxNn _ _ => sneVxNn _ _
  | .seVxVy _ _ => seVxVy _ _
  | .ldVxNn _ _ => ldVxNn _ _
  | .addVxNn _ _ => addVxNn _ _
  | .ldVxVy _ _ => ldVxVy _ _
  | .orVxVy _ _ => orVxVy _ _
  | .andVxVy _ _ => andVxVy _ _
  | .xorVxVy _ _ => xorVxVy _ _
  | .addVxVy _ _ => addVxVy _ _
  | .subVxVy _ _ => subVxVy _ _
  | .shrVxVy _ _ => shrVxVy _ _
  | .subnVxVy _ _ => subnVxVy _ _
  | .shlVxVy _ _ => shlVxVy _ _
  | .sneVxVy _ _ => sneVxVy _ _
  | .ldINnn _ => ldINnn _
  | .jpV0Nnn _ => jpV0Nnn _
  | .rndVxNn _ _ => rndVxNn _ _
  | .drwVxVyN _ _ _ => drwVxVyN _ _ _
  | .skpVx _ => skpVx _
  | .sknpVx _ => sknpVx _
  | .ldVxDt _ => ldVxDt _
  | .ldVxK _ => ldVxK _
  | .ldDtVx _ => ldDtVx _
  | .ldStVx _ => ldStVx _
  | .addIVx _ => addIVx _
  | .ldFVx _ => ldFVx _
  | .ldBVx _ => ldBVx _
  | .ldIndVx _ => ldIndVx _
  | .ldVxInd _ => ldVxInd _
  | .unknown _ => unknown _

end

/-- A word that matches a row of R100 is the encoding of an instruction of that row. -/
theorem exists_encodeWord_of_matches (op : Word) :
    ∀ r ∈ opcodeTable, op &&& r.mask = r.value → ∃ i : Instr, i.row = some r ∧ encodeWord i = op := by
  simp only [opcodeTable, List.forall_mem_cons]
  exact ⟨
    fun h => ⟨.cls, rfl, eq_of_mask_all h⟩,
    fun h => ⟨.ret, rfl, eq_of_mask_all h⟩,
    fun h => ⟨.jpNnn _, rfl, formatNnn_of_major (fieldMajor_of_mask h)⟩,
    fun h => ⟨.callNnn _, rfl, formatNnn_of_major (fieldMajor_of_mask h)⟩,
    fun h => ⟨.seVxNn _ _, rfl, formatXnn_of_major (fieldMajor_of_mask h)⟩,
    fun h => ⟨.sneVxNn _ _, rfl, formatXnn_of_major (fieldMajor_of_mask h)⟩,
    fun h => ⟨.seVxVy _ _, rfl, formatXyf_of_fields (fields_of_mask_xyf h)⟩,
    fun h => ⟨.ldVxNn _ _, rfl, formatXnn_of_major (fieldMajor_of_mask h)⟩,
    fun h => ⟨.addVxNn _ _, rfl, formatXnn_of_major (fieldMajor_of_mask h)⟩,
    fun h => ⟨.ldVxVy _ _, rfl, formatXyf_of_fields (fields_of_mask_xyf h)⟩,
    fun h => ⟨.orVxVy _ _, rfl, formatXyf_of_fields (fields_of_mask_xyf h)⟩,
    fun h => ⟨.andVxVy _ _, rfl, formatXyf_of_fields (fields_of_mask_xyf h)⟩,
    fun h => ⟨.xorVxVy _ _, rfl, formatXyf_of_fields (fields_of_mask_xyf h)⟩,
    fun h => ⟨.addVxVy _ _, rfl, formatXyf_of_fields (fields_of_mask_xyf h)⟩,
    fun h => ⟨.subVxVy _ _, rfl, formatXyf_of_fields (fields_of_mask_xyf h)⟩,
    fun h => ⟨.shrVxVy _ _, rfl, formatXyf_of_fields (fields_of_mask_xyf h)⟩,
    fun h => ⟨.subnVxVy _ _, rfl, formatXyf_of_fields (fields_of_mask_xyf h)⟩,
    fun h => ⟨.shlVxVy _ _, rfl, formatXyf_of_fields (fields_of_mask_xyf h)⟩,
    fun h => ⟨.sneVxVy _ _, rfl, formatXyf_of_fields (fields_of_mask_xyf h)⟩,
    fun h => ⟨.ldINnn _, rfl, formatNnn_of_major (fieldMajor_of_mask h)⟩,
    fun h => ⟨.jpV0Nnn _, rfl, formatNnn_of_major (fieldMajor_of_mask h)⟩,
    fun h => ⟨.rndVxNn _ _, rfl, formatXnn_of_major (fieldMajor_of_mask h)⟩,
    fun h => ⟨.drwVxVyN _ _ _, rfl, formatXyn_of_major (fieldMajor_of_mask h)⟩,
    fun h => ⟨.skpVx _, rfl, formatXff_of_fields (fields_of_mask_xff h)⟩,
    fun h => ⟨.sknpVx _, rfl, formatXff_of_fields (fields_of_mask_xff h)⟩,
    fun h => ⟨.ldVxDt _, rfl, formatXff_of_fields (fields_of_mask_xff h)⟩,
    fun h => ⟨.ldVxK _, rfl, formatXff_of_fields (fields_of_mask_xff h)⟩,
    fun h => ⟨.ldDtVx _, rfl, formatXff_of_fields (fields_of_mask_xff h)⟩,
    fun h => ⟨.ldStVx _, rfl, formatXff_of_fields (fields_of_mask_xff h)⟩,
    fun h => ⟨.addIVx _, rfl, formatXff_of_fields (fields_of_mask_xff h)⟩,
    fun h => ⟨.ldFVx _, rfl, formatXff_of_fields (fields_of_mask_xff h)⟩,
    fun h => ⟨.ldBVx _, rfl, formatXff_of_fields (fields_of_mask_xff h)⟩,
    fun h => ⟨.ldIndVx _, rfl, formatXff_of_fields (fields_of_mask_xff h)⟩,
    fun h => ⟨.ldVxInd _, rfl, formatXff_of_fields (fields_of_mask_xff h)⟩,
    nofun⟩

/-! ## The decoder after the encoder -/

/-- The fields of an encoded instruction of the table lead the decoder's tree to it. -/
theorem decodeWord_encodeWord_of_row {i : Instr} {r : OpcodeRow} (h : i.row = some r) : decodeWord (encodeWord i) = i := by
  cases i
  case cls | ret => rfl
  case unknown => cases h
  all_goals simp [encodeWord, decodeWord, decode8, decodeE, decodeF]

/-- A word that matches a row decodes to an instruction of that row (R94). -/
theorem row_decodeWord_of_matches {op : Word} {r : OpcodeRow} (hr : r ∈ opcodeTable) (h : op &&& r.mask = r.value) :
    (decodeWord op).row = some r := by
  obtain ⟨i, hi, rfl⟩ := exists_encodeWord_of_matches op r hr h
  rwa [decodeWord_encodeWord_of_row hi]

/-! ## The encoder after the decoder: the four families with a nested match, then the tree -/

section
variable {op : Word}

theorem encodeWord_decode0 (hm : fieldMajor op = 0x0) : encodeWord (decode0 op) = op := by
  unfold decode0
  split
  next h => exact ((fieldNnn_eq_iff hm).mp h).symm
  next =>
    split
    next h => exact ((fieldNnn_eq_iff hm).mp h).symm
    next => rfl

theorem encodeWord_decode8 (hm : fieldMajor op = 0x8) : encodeWord (decode8 op) = op := by
  unfold decode8
  dsimp only
  split
  case h_10 => rfl
  all_goals exact formatXyf_of_fields ⟨hm, BitVec.eq_of_toNat_eq ‹_›⟩

theorem encodeWord_decodeE (hm : fieldMajor op = 0xE) : encodeWord (decodeE op) = op := by
  unfold decodeE
  split
  case h_3 => rfl
  all_goals exact formatXff_of_fields ⟨hm, BitVec.eq_of_toNat_eq ‹_›⟩

theorem encodeWord_decodeF (hm : fieldMajor op = 0xF) : encodeWord (decodeF op) = op := by
  unfold decodeF
  dsimp only
  split
  case h_10 => rfl
  all_goals exact formatXff_of_fields ⟨hm, BitVec.eq_of_toNat_eq ‹_›⟩

end

/-- The last branch of the decoder's tree is the major opcode 0xF. -/
theorem eq_0xF_of_le {m : Nibble} (h : 15 ≤ m.toNat) : m = 0xF :=
  BitVec.eq_of_toNat_eq (Nat.le_antisymm (Nat.le_of_lt_succ m.isLt) h)

/-- No bit of a word is dropped: the instruction it decodes to encodes to it. -/
theorem encodeWord_decodeWord (op : Word) : encodeWord (decodeWord op) = op := by
  unfold decodeWord
  split
  next h => exact encodeWord_decode0 (BitVec.eq_of_toNat_eq h)
  next h => exact formatNnn_of_major (BitVec.eq_of_toNat_eq h)
  next h => exact formatNnn_of_major (BitVec.eq_of_toNat_eq h)
  next h => exact formatXnn_of_major (BitVec.eq_of_toNat_eq h)
  next h => exact formatXnn_of_major (BitVec.eq_of_toNat_eq h)
  next h =>
    split
    next hn => exact formatXyf_of_fields ⟨BitVec.eq_of_toNat_eq h, hn⟩
    next => rfl
  next h => exact formatXnn_of_major (BitVec.eq_of_toNat_eq h)
  next h => exact formatXnn_of_major (BitVec.eq_of_toNat_eq h)
  next h => exact encodeWord_decode8 (BitVec.eq_of_toNat_eq h)
  next h =>
    split
    next hn => exact formatXyf_of_fields ⟨BitVec.eq_of_toNat_eq h, hn⟩
    next => rfl
  next h => exact formatNnn_of_major (BitVec.eq_of_toNat_eq h)
  next h => exact formatNnn_of_major (BitVec.eq_of_toNat_eq h)
  next h => exact formatXnn_of_major (BitVec.eq_of_toNat_eq h)
  next h => exact formatXyn_of_major (BitVec.eq_of_toNat_eq h)
  next h => exact encodeWord_decodeE (BitVec.eq_of_toNat_eq h)
  next =>
    simp only [imp_false] at *
    exact encodeWord_decodeF (eq_0xF_of_le (by omega))

/-! ## Known and unknown words -/

/-- The row of the decoded instruction is a row the word matches. -/
theorem matches_row_decodeWord {op : Word} {r : OpcodeRow} (h : (decodeWord op).row = some r) : op &&& r.mask = r.value := by
  simpa [OpcodeRow.matchesWord, encodeWord_decodeWord] using encodesItsRow (decodeWord op) r h

theorem decodeWord_eq_unknown_of_row_eq_none {op : Word} (h : (decodeWord op).row = none) : decodeWord op = .unknown op := by
  simpa only [encodeWord_decodeWord] using eq_unknown_of_row_eq_none h

theorem isUnknownWord_iff {op : Word} : isUnknownWord op = true ↔ ∀ r ∈ opcodeTable, op &&& r.mask ≠ r.value := by
  simp [isUnknownWord, OpcodeRow.matchesWord]

/-- The decoder answers `unknown` for the words of no row and for no other word (R94, R101). -/
theorem decodeWord_eq_unknown_iff {op : Word} : decodeWord op = .unknown op ↔ isUnknownWord op = true := by
  rw [isUnknownWord_iff]
  constructor
  · intro h r hr hmatch
    simpa [h, Instr.row] using row_decodeWord_of_matches hr hmatch
  · intro h
    refine decodeWord_eq_unknown_of_row_eq_none (Option.eq_none_iff_forall_ne_some.mpr fun r hr => ?_)
    exact h r (row_mem_opcodeTable hr) (matches_row_decodeWord hr)

theorem wellFormed_of_row {i : Instr} {r : OpcodeRow} (h : i.row = some r) : i.wellFormed = true := by
  cases i
  case unknown => cases h
  all_goals rfl

theorem wellFormed_decodeWord (op : Word) : (decodeWord op).wellFormed = true := by
  cases hrow : (decodeWord op).row with
  | some r => exact wellFormed_of_row hrow
  | none =>
    have hop := decodeWord_eq_unknown_of_row_eq_none hrow
    rw [hop]
    exact decodeWord_eq_unknown_iff.mp hop

theorem decodeWord_encodeWord {i : Instr} (h : i.wellFormed = true) : decodeWord (encodeWord i) = i := by
  cases hrow : i.row with
  | some r => exact decodeWord_encodeWord_of_row hrow
  | none =>
    have hi := eq_unknown_of_row_eq_none hrow
    rw [hi] at h
    exact (decodeWord_eq_unknown_iff.mpr h).trans hi.symm

/-! ## The unknown words of each family with a nested match (R101) -/

section
variable {op : Word}

theorem decode0_eq_unknown_iff (hm : fieldMajor op = 0x0) : decode0 op = .unknown op ↔ op ≠ 0x00E0 ∧ op ≠ 0x00EE := by
  have hcls : fieldNnn op = 0x0E0 ↔ op = 0x00E0 := fieldNnn_eq_iff hm
  have hret : fieldNnn op = 0x0EE ↔ op = 0x00EE := fieldNnn_eq_iff hm
  unfold decode0
  split
  next h => simp [hcls.mp h]
  next h =>
    split
    next h' => simp [hret.mp h']
    next h' => exact iff_of_true rfl ⟨mt hcls.mpr h, mt hret.mpr h'⟩

theorem decode8_eq_unknown_iff :
    decode8 op = .unknown op ↔ fieldN op ∈ ([0x8, 0x9, 0xA, 0xB, 0xC, 0xD, 0xF] : List Nibble) := by
  unfold decode8
  dsimp only
  split
  case h_10 =>
    simp only [imp_false, List.mem_cons, List.not_mem_nil, or_false, true_iff] at *
    bv_omega
  all_goals
    rename_i h
    simp [BitVec.toNat_eq, h]

theorem decodeE_eq_unknown_iff : decodeE op = .unknown op ↔ fieldNn op ≠ 0x9E ∧ fieldNn op ≠ 0xA1 := by
  unfold decodeE
  split
  next h => simp [BitVec.toNat_eq, h]
  next h => simp [BitVec.toNat_eq, h]
  next h h' => exact iff_of_true rfl ⟨fun e => h (congrArg BitVec.toNat e), fun e => h' (congrArg BitVec.toNat e)⟩

theorem decodeF_eq_unknown_iff :
    decodeF op = .unknown op ↔ fieldNn op ∉ ([0x07, 0x0A, 0x15, 0x18, 0x1E, 0x29, 0x33, 0x55, 0x65] : List Byte) := by
  unfold decodeF
  dsimp only
  split
  case h_10 =>
    simp only [imp_false, List.mem_cons, List.not_mem_nil, or_false, not_or, true_iff] at *
    bv_omega
  all_goals
    rename_i h
    simp [BitVec.toNat_eq, h]

end

/-! ## The obligations -/

/-- Settles O1: the fields of the encoded word lead the decoder's tree to the instruction; an `unknown` is of no row. -/
theorem decodeOfEncode : Obligations.DecodeOfEncode := by
  intro i rest h
  simp [encode, decode, decodeWord_encodeWord h]

/-- Settles O2: in every branch of the decoder's tree the fields read are those the format lays out. -/
theorem encodeOfDecode : Obligations.EncodeOfDecode := by
  intro hi lo rest
  refine ⟨decodeWord (wordOfBytes hi lo), rfl, wellFormed_decodeWord _, ?_⟩
  simp [encode, encodeWord_decodeWord]

/-- Settles O3: the decoded instruction is of every row the word matches, and it is of one row. -/
theorem decoderSelectsTheMatchingRow : Obligations.DecoderSelectsTheMatchingRow := by
  intro op
  refine ⟨fun r hr h => ?_, fun h => decodeWord_eq_unknown_iff.mpr (isUnknownWord_iff.mpr h)⟩
  have hrow := row_decodeWord_of_matches hr h
  exact ⟨hrow, fun r' hr' h' => Option.some.inj ((row_decodeWord_of_matches hr' h').symm.trans hrow)⟩

/-- Settles O4, by the major opcode: only six branches of the decoder's tree can answer `unknown`. -/
theorem unknownWordsAreThoseListed : Obligations.UnknownWordsAreThoseListed := by
  intro op
  change decodeWord op = .unknown op ↔
    (fieldMajor op = 0x0 ∧ op ≠ 0x00E0 ∧ op ≠ 0x00EE) ∨ (fieldMajor op = 0x5 ∧ fieldN op ≠ 0) ∨
    (fieldMajor op = 0x8 ∧ fieldN op ∈ _) ∨ (fieldMajor op = 0x9 ∧ fieldN op ≠ 0) ∨
    (fieldMajor op = 0xE ∧ fieldNn op ≠ 0x9E ∧ fieldNn op ≠ 0xA1) ∨ (fieldMajor op = 0xF ∧ fieldNn op ∉ _)
  unfold decodeWord
  split
  case h_1 h =>
    have hm : fieldMajor op = 0x0 := BitVec.eq_of_toNat_eq h
    rw [decode0_eq_unknown_iff hm]
    simp [hm]
  case h_6 h | h_10 h => simp [BitVec.toNat_eq (x := fieldMajor op), h]
  case h_9 h =>
    rw [decode8_eq_unknown_iff]
    simp [BitVec.toNat_eq (x := fieldMajor op), h]
  case h_15 h =>
    rw [decodeE_eq_unknown_iff]
    simp [BitVec.toNat_eq (x := fieldMajor op), h]
  case h_16 =>
    simp only [imp_false] at *
    have hm : fieldMajor op = 0xF := eq_0xF_of_le (by omega)
    rw [decodeF_eq_unknown_iff]
    simp [hm]
  all_goals
    rename_i h
    simp [BitVec.toNat_eq (x := fieldMajor op), h]

/-- Settles O5, by running the decoder on the seven words. -/
theorem sampleWordsDecode : Obligations.SampleWordsDecode := ⟨rfl, rfl, rfl, rfl, rfl, rfl, rfl⟩

end Sys2Proof

/-! PROOFS. The instruction cycle: a cycle runs the instruction at `pc`, no other step writes what the executor owns, and an
unknown word only leaves a record (40_instruction_cycle.md R120, R124, R127). -/

namespace Sys2Proof.Machine

open Sys2Proof.Claims

/-! ## Outside an instruction cycle and a boot -/

/-- A step that is neither an instruction cycle nor a boot writes the inputs, the outputs, the timers, `batch_left` and CORE's
place in the frame, and nothing else (10_state.md R38, 60_exceptions.md R250). -/
theorem step_frame_of_not_cycleNext {s t : State} (h : step s = .next t) (hcycle : ¬ CycleNext s) (hboot : ¬ BootNext s) :
    t = { s with
      keys := t.keys, dt := t.dt, st := t.st, run := t.run, tone := t.tone, batchLeft := t.batchLeft, pend := t.pend,
      resetIn := t.resetIn, displayOut := t.displayOut, debugOut := t.debugOut, phase := t.phase, frames := t.frames } := by
  obtain ⟨_, rfl⟩ | ⟨hphase, hreset, _, _⟩ | ⟨hreset, hframe⟩ := step_cases h
  · rfl
  · exact absurd ⟨hphase, .inl hreset⟩ hboot
  · obtain ⟨_, rfl⟩ | ⟨_, rfl⟩ | ⟨_, _, rfl⟩ | ⟨hphase, hrun, _, _⟩ | ⟨_, _, rfl⟩ | ⟨_, _, _, rfl⟩ |
      ⟨hphase, hrun, hfault, hpos, _⟩ | ⟨_, _, rfl⟩ | ⟨_, rfl⟩ | ⟨_, rfl⟩ := hframe
    · rfl
    · rw [drain_frame]
      rfl
    · rfl
    · exact absurd ⟨by simp [hphase], .inr ⟨hphase, hrun⟩⟩ hboot
    · rfl
    · rfl
    · exact absurd ⟨hphase, hrun, hfault, hpos, hreset⟩ hcycle
    · rfl
    · rfl
    · rfl

/-- Settles O9: what such a step may write is none of the elements listed, and RAM reads alike when it is the same data. -/
theorem noInstructionOutsideACycle : Obligations.NoInstructionOutsideACycle := by
  intro s t h hcycle hboot
  rw [step_frame_of_not_cycleNext h hcycle hboot]
  exact ⟨rfl, rfl, rfl, rfl, rfl, rfl, rfl, rfl, rfl, fun _ => rfl⟩

/-! ## Inside an instruction cycle -/

/-- No instruction stops the machine: a raise, too, answers a next state (60_exceptions.md R243, log 14). -/
theorem exists_exec_eq_next (i : Instr) (s : State) : ∃ t, exec i s = .next t := by
  cases i
  case ret =>
    by_cases hsp : s.sp = 0
    · exact ⟨_, if_pos hsp⟩
    · exact ⟨_, if_neg hsp⟩
  case callNnn =>
    by_cases hsp : s.sp = 12
    · exact ⟨_, if_pos hsp⟩
    · exact ⟨_, if_neg hsp⟩
  case ldVxK x =>
    change ∃ t, execLdVxK x s = .next t
    unfold execLdVxK
    split
    · split <;> exact ⟨_, rfl⟩
    · split <;> exact ⟨_, rfl⟩
  all_goals exact ⟨_, rfl⟩

/-- Steps 1 to 4 of a cycle leave the state the claims write out (40_instruction_cycle.md R120). -/
theorem beginCycle_beginStep (s : State) : beginCycle (beginStep s) = afterFetch s := rfl

/-- Where an instruction cycle comes next, the step is that cycle (40_instruction_cycle.md R127). -/
theorem step_of_cycleNext {s : State} (h : CycleNext s) :
    step s = onNext (exec (decodeWord (fetchWord s)) (afterFetch s)) countCycle := by
  obtain ⟨hphase, hrun, hfault, hpos, hreset⟩ := h
  have hcan : canCycle (beginStep s) = true := by simp [canCycle, hrun, hfault, hpos]
  simp [step, machineStep, frameStep, batchStep, instructionCycle, hphase, hreset, hcan, beginCycle_beginStep]

/-- Settles O6: the step is the cycle, the instruction it executes is the one at `pc`, and every instruction completes. -/
theorem stepRunsTheDecodedInstruction : Obligations.StepRunsTheDecodedInstruction := by
  intro s i hcycle hinstr
  obtain ⟨t, ht⟩ := exists_exec_eq_next i (afterFetch s)
  have hstep : step s = .next (countCycle t) := by
    rw [step_of_cycleNext hcycle, instrAt_iff.mp hinstr, ht]
    rfl
  exact ⟨t, ht, hstep⟩

/-- An unknown word runs as the emission of its record (40_instruction_cycle.md R124). -/
theorem exec_unknown (op : Word) (s : State) : exec (.unknown op) s = .next (emit s (.unknownOpcode (fetchedFrom s) op)) := rfl

/-- Settles O32: the emission of a record appends it to `debug_out` when `DEBUG_EN`, and writes nothing else. -/
theorem unknownOpcodeDoesNothingElse : Obligations.UnknownOpcodeDoesNothingElse := exec_unknown

end Sys2Proof.Machine

/-! PROOFS. The display instructions: 00E0 turns every pixel off, DXYN in closed form, and a second draw undoes the first
(41_display.md R140 to R142). -/

namespace Sys2Proof.Machine

open Sys2Proof.Claims

/-! ## 00E0 (R141) -/

/-- Settles O21: the cleared grid reads 0 at every place, and the display is all that is written. -/
theorem clearScreenTurnsEveryPixelOff : Obligations.ClearScreenTurnsEveryPixelOff :=
  ⟨rfl, fun s => ⟨writeDisp s blankGrid, rfl, fun x y _ _ => Grid.pixel_blank x y, rfl, fun _ => rfl, fun _ => rfl⟩⟩

/-! ## DXYN (R142) -/

/-- The bytes drawn have a bit 1 exactly where the claims say the sprite does (R140). -/
theorem spriteCovers_spriteRows (s : State) (x y n : Nibble) (px py : Nat) :
    spriteCovers (startColumn s x) (startRow s y) (spriteRows s n) px py = spriteOn s x y n px py := by
  change _ = (decide (startColumn s x ≤ px ∧ px < startColumn s x + 8 ∧ startRow s y ≤ py ∧ py < startRow s y + n.toNat) &&
    (memRead s (s.i.toNat + (py - startRow s y))).getLsbD (7 - (px - startColumn s x)))
  have hlen : (spriteRows s n).length = n.toNat := memReadBytes_length ..
  unfold spriteCovers
  by_cases hrow : startRow s y ≤ py ∧ py < startRow s y + n.toNat
  · have hk : py - startRow s y < (spriteRows s n).length := by omega
    have hbyte : (spriteRows s n)[py - startRow s y]? = some (memRead s (s.i.toNat + (py - startRow s y))) :=
      (List.getElem?_eq_getElem hk).trans (congrArg some (memReadBytes_getElem hk))
    simp [hbyte, hrow, rowCovers, spriteBit, Bool.and_assoc]
  · by_cases habove : startRow s y ≤ py
    · have hnone : (spriteRows s n)[py - startRow s y]? = none := List.getElem?_eq_none (by omega)
      simp [hnone, hrow]
    · simp [habove]

/-- The grid and the collision DXYN draws. -/
def drawn (s : State) (x y n : Nibble) : Grid × Bool :=
  blitRows (startColumn s x) (startRow s y) (spriteRows s n) (s.disp, false)

/-- The state DXYN leaves. -/
def afterDraw (s : State) (x y n : Nibble) : State :=
  writeV (writeDisp s (drawn s x y n).1) 15 (collisionFlag (drawn s x y n).2)

theorem exec_drwVxVyN (s : State) (x y n : Nibble) : exec (.drwVxVyN x y n) s = .next (afterDraw s x y n) := rfl

section
variable (s : State) (x y n : Nibble)

/-- Inside the display the pixels under a sprite bit are toggled, and no other. -/
theorem pixel_afterDraw {px py : Nat} (hx : px < 64) (hy : py < 32) :
    pixel (afterDraw s x y n) px py = (pixel s px py ^^ spriteOn s x y n px py) := by
  rw [← spriteCovers_spriteRows]
  exact (blitRows_spec (startColumn s x) (startRow s y) (spriteRows s n) s.disp false).1 px py hx hy

/-- A sprite bit inside the display lies over a pixel that is `b`. -/
def SpriteBitOver (b : Bool) : Prop :=
  ∃ px py, px < 64 ∧ py < 32 ∧ spriteOn s x y n px py = true ∧ pixel s px py = b

theorem drawn_snd_iff : (drawn s x y n).2 = true ↔ SpriteBitOver s x y n true := by
  refine (blitRows_spec (startColumn s x) (startRow s y) (spriteRows s n) s.disp false).2.trans ?_
  simp [spriteCovers_spriteRows, SpriteBitOver, pixel]

theorem readV_afterDraw_vf : readV (afterDraw s x y n) 15 = collisionFlag (drawn s x y n).2 := readV_writeV_self ..

theorem readV_afterDraw_vf_eq_one_iff : readV (afterDraw s x y n) 15 = 1 ↔ SpriteBitOver s x y n true := by
  rw [readV_afterDraw_vf, ← drawn_snd_iff]
  cases (drawn s x y n).2 <;> decide

theorem readV_afterDraw_vf_eq_zero_iff : readV (afterDraw s x y n) 15 = 0 ↔ ¬ SpriteBitOver s x y n true := by
  rw [readV_afterDraw_vf, ← drawn_snd_iff]
  cases (drawn s x y n).2 <;> decide

theorem readV_afterDraw_of_ne {r : Nibble} (hr : r ≠ 15) : readV (afterDraw s x y n) r = readV s r :=
  readV_writeV_ne _ _ hr.symm

end

/-- Settles O22: the closed form is that of the sprite rows drawn one after another, and `VF` is written last. -/
theorem drawTogglesClipsAndDetectsCollision : Obligations.DrawTogglesClipsAndDetectsCollision := by
  intro x y n
  refine ⟨decodeWord_encodeWord (i := .drwVxVyN x y n) rfl, fun s => ⟨afterDraw s x y n, exec_drwVxVyN s x y n, ?_⟩⟩
  refine ⟨fun _ _ => pixel_afterDraw s x y n, (readV_afterDraw_vf_eq_one_iff s x y n).mpr, fun hoff => ?_, ?_, rfl, fun _ => rfl⟩
  · refine (readV_afterDraw_vf_eq_zero_iff s x y n).mpr ?_
    rintro ⟨px, py, hx, hy, hbit, hlit⟩
    exact absurd (hoff px py hx hy hbit) (by simp [hlit])
  · exact fun r hr => readV_afterDraw_of_ne s x y n (by simpa using hr)

/-! ## Drawing twice (R142, corner case 8) -/

section
variable (s : State) {x y : Nibble} (n : Nibble) (hx : x ≠ 15) (hy : y ≠ 15)
include hx hy

/-- A draw does not move its own sprite when neither coordinate is read from `VF`. -/
theorem spriteOn_afterDraw (px py : Nat) : spriteOn (afterDraw s x y n) x y n px py = spriteOn s x y n px py := by
  have hmem (a : Nat) : memRead (afterDraw s x y n) a = memRead s a := rfl
  have hi : (afterDraw s x y n).i = s.i := rfl
  simp only [spriteOn, readV_afterDraw_of_ne s x y n hx, readV_afterDraw_of_ne s x y n hy, hmem, hi]

/-- Toggled twice by the same bits, every pixel is as before. -/
theorem disp_afterDraw_afterDraw : (afterDraw (afterDraw s x y n) x y n).disp = s.disp := by
  refine Grid.eq_of_pixel_eq fun px py hpx hpy => ?_
  change pixel (afterDraw (afterDraw s x y n) x y n) px py = pixel s px py
  rw [pixel_afterDraw _ _ _ _ hpx hpy, spriteOn_afterDraw s n hx hy, pixel_afterDraw _ _ _ _ hpx hpy,
    Bool.xor_assoc, Bool.xor_self, Bool.xor_false]

/-- A sprite bit lies over a lit pixel after the first draw exactly where it lay over a dark one before (90_conflicts.md C15). -/
theorem spriteBitOver_afterDraw_iff : SpriteBitOver (afterDraw s x y n) x y n true ↔ SpriteBitOver s x y n false := by
  refine exists_congr fun px => exists_congr fun py => and_congr_right fun hpx => and_congr_right fun hpy => ?_
  rw [spriteOn_afterDraw s n hx hy, pixel_afterDraw s x y n hpx hpy]
  refine and_congr_right fun hbit => ?_
  rw [hbit, Bool.xor_true, Bool.not_eq_true']

end

/-- Settles O23: both draws toggle the same pixels, so the second meets a lit pixel where the first met a dark one. -/
theorem drawingTwiceRestoresTheDisplay : Obligations.DrawingTwiceRestoresTheDisplay := by
  intro x y n s hx hy
  refine ⟨afterDraw s x y n, afterDraw (afterDraw s x y n) x y n, exec_drwVxVyN .., exec_drwVxVyN .., ?_, ?_⟩
  · exact disp_afterDraw_afterDraw s n hx hy
  · exact (readV_afterDraw_vf_eq_one_iff ..).trans (spriteBitOver_afterDraw_iff s n hx hy)

end Sys2Proof.Machine

/-! PROOFS. The control-transfer instructions: jumps, CALL with RET, and the conditional skips (42_control_flow.md R150 to R158). -/

namespace Sys2Proof.Machine

open Sys2Proof.Claims

/-! ## Jumps (R152, R158) -/

theorem toNat_zext16 {n : Nat} (h : n ≤ 16) (v : BitVec n) : (zext16 v).toNat = v.toNat := BitVec.toNat_setWidth_of_le h

/-- The sum of BNNN does not leave 16 bits, so it is reduced once, modulo 4096. -/
theorem toNat_offsetTarget (s : State) (nnn : Addr12) :
    (offsetTarget s nnn).toNat = ((readV s 0).toNat + nnn.toNat) % 4096 := by
  have hsum : (zext16 (readV s 0) + zext16 nnn).toNat = (readV s 0).toNat + nnn.toNat := by
    rw [BitVec.toNat_add, toNat_zext16 (by decide), toNat_zext16 (by decide)]
    omega
  rw [offsetTarget, BitVec.toNat_umod, hsum]
  rfl

/-- Settles O24: the two targets as numbers; a jump writes `pc` alone. -/
theorem jumpTargets : Obligations.JumpTargets := by
  intro nnn
  refine ⟨decodeWord_encodeWord (i := .jpNnn nnn) rfl, decodeWord_encodeWord (i := .jpV0Nnn nnn) rfl, fun s => ⟨?_, ?_⟩⟩
  · exact ⟨writePc s (zext16 nnn), rfl, toNat_zext16 (by decide) nnn, rfl, fun _ => rfl⟩
  · exact ⟨writePc s (offsetTarget s nnn), rfl, toNat_offsetTarget s nnn, rfl, fun _ => rfl⟩

/-! ## CALL and RET (R151, R153) -/

/-- Below the full stack a CALL pushes and jumps. -/
theorem exec_callNnn_of_lt {s : State} (nnn : Addr12) (h : s.sp.val < 12) :
    exec (.callNnn nnn) s = .next (writePc (pushPc s) (zext16 nnn)) :=
  if_neg fun hfull => h.ne (congrArg Fin.val hfull)

/-- Above the empty stack a RET pops. -/
theorem exec_ret_of_pos {s : State} (h : 0 < s.sp.val) : exec .ret s = .next (popPc s) :=
  if_neg fun hempty => h.ne' (congrArg Fin.val hempty)

/-- Settles O25: the push writes the one entry at `sp`, and the jump writes `pc`. -/
theorem callPushesTheReturnAddress : Obligations.CallPushesTheReturnAddress := by
  intro nnn
  refine ⟨decodeWord_encodeWord (i := .callNnn nnn) rfl, fun s hsp => ⟨_, exec_callNnn_of_lt nnn hsp, ?_⟩⟩
  exact ⟨fun k _ => stackEntry_pushPc s k hsp, pushPc_sp_val s hsp, toNat_zext16 (by decide) nnn, rfl, fun _ => rfl⟩

/-- Settles O26: the pop writes `sp` and `pc` and leaves the stack's entries. -/
theorem returnPopsTheStack : Obligations.ReturnPopsTheStack :=
  ⟨rfl, fun s hsp => ⟨popPc s, exec_ret_of_pos hsp, popPc_sp_val s hsp, rfl, rfl, fun _ => rfl⟩⟩

theorem stackEntry_congr {s t : State} (h : t.stack = s.stack) (k : Nat) : stackEntry t k = stackEntry s k := by
  rw [stackEntry, h, stackEntry]

/-- Settles O28: the RET pops the entry the CALL pushed, which holds the advanced `pc` of the CALL. -/
theorem returnComesBackAfterTheCall : Obligations.ReturnComesBackAfterTheCall := by
  intro nnn s hsp
  refine ⟨writePc (pushPc s) (zext16 nnn), exec_callNnn_of_lt nnn hsp, fun t' hstack hsp' => ?_⟩
  have hval : t'.sp.val = s.sp.val + 1 := (congrArg Fin.val hsp').trans (pushPc_sp_val s hsp)
  have hpos : 0 < t'.sp.val := by omega
  have htop : t'.sp.val - 1 = s.sp.val := by omega
  refine ⟨popPc t', exec_ret_of_pos hpos, ?_, Fin.ext ((popPc_sp_val t' hpos).trans htop)⟩
  calc
    stackEntry t' (t'.sp.val - 1) = stackEntry (pushPc s) s.sp.val := by rw [htop]; exact stackEntry_congr hstack _
    _ = s.pc := (stackEntry_pushPc s s.sp.val hsp).trans (if_pos rfl)

/-! ## Conditional skips (R150, R154 to R157) -/

/-- A skip adds 2 to `pc` when its condition holds, and writes nothing else (R150). -/
theorem skipsWhen_skipIf (c : Bool) (s : State) : SkipsWhen c s (skipIf c s) := by
  refine ⟨?_, rfl, fun _ => rfl⟩
  cases c
  · rfl
  · exact BitVec.toNat_add s.pc 2

theorem beq_eq_decide_toNat {w : Nat} (a b : BitVec w) : (a == b) = decide (a.toNat = b.toNat) := by
  rw [beq_eq_decide, decide_eq_decide, BitVec.toNat_eq]

/-- The condition of SE, on bytes as on numbers (R154, R156). -/
theorem skipsWhen_skipIf_beq (a b : Byte) (s : State) :
    SkipsWhen (decide (a.toNat = b.toNat)) s (skipIf (a == b) s) := by
  rw [beq_eq_decide_toNat]
  exact skipsWhen_skipIf _ s

/-- The condition of SNE, on bytes as on numbers (R155, R157). -/
theorem skipsWhen_skipIf_bne (a b : Byte) (s : State) :
    SkipsWhen (decide (a.toNat ≠ b.toNat)) s (skipIf (a != b) s) := by
  rw [bne, beq_eq_decide_toNat, ← decide_not]
  exact skipsWhen_skipIf _ s

/-- Settles O29: equality and difference of bytes are those of their numbers. -/
theorem skipsOnImmediate : Obligations.SkipsOnImmediate := by
  intro x nn
  refine ⟨decodeWord_encodeWord (i := .seVxNn x nn) rfl, decodeWord_encodeWord (i := .sneVxNn x nn) rfl, fun s => ⟨?_, ?_⟩⟩
  · exact ⟨_, rfl, skipsWhen_skipIf_beq (readV s x) nn s⟩
  · exact ⟨_, rfl, skipsWhen_skipIf_bne (readV s x) nn s⟩

/-- A word `5XYN` or `9XYN` whose low nibble is not 0 is unknown (R101; for `9XYN` the spec's decision D4). -/
theorem decodeWord_formatXyn_eq_unknown {m n : Nibble} (hm : m = 0x5 ∨ m = 0x9) (hn : n ≠ 0) (x y : Nibble) :
    decodeWord (formatXyn m x y n) = .unknown (formatXyn m x y n) := by
  have hmajor : fieldMajor (formatXyn m x y n) = m := fieldMajor_formatXyn m x y n
  have hlow : fieldN (formatXyn m x y n) ≠ 0 := by rwa [fieldN_formatXyn]
  refine (unknownWordsAreThoseListed _).mpr ?_
  obtain rfl | rfl := hm
  · exact .inr (.inl ⟨hmajor, hlow⟩)
  · exact .inr (.inr (.inr (.inl ⟨hmajor, hlow⟩)))

/-- Settles O30: the skip on equal registers; only the low nibble 0 is of the row 5XY0. -/
theorem skipWhenRegistersAreEqual : Obligations.SkipWhenRegistersAreEqual := by
  intro x y
  refine ⟨decodeWord_encodeWord (i := .seVxVy x y) rfl, fun _ hn => decodeWord_formatXyn_eq_unknown (.inl rfl) hn x y, fun s => ?_⟩
  exact ⟨_, rfl, skipsWhen_skipIf_beq (readV s x) (readV s y) s⟩

/-- Settles O31: the skip on different registers; only the low nibble 0 is of the row 9XY0. -/
theorem skipWhenRegistersDiffer : Obligations.SkipWhenRegistersDiffer := by
  intro x y
  refine ⟨decodeWord_encodeWord (i := .sneVxVy x y) rfl, fun _ hn => decodeWord_formatXyn_eq_unknown (.inr rfl) hn x y, fun s => ?_⟩
  exact ⟨_, rfl, skipsWhen_skipIf_bne (readV s x) (readV s y) s⟩

end Sys2Proof.Machine

/-! PROOFS. The register load, arithmetic, logic, shift and random instructions (43_load_alu.md R170 to R184). -/

namespace Sys2Proof.Machine

open Sys2Proof.Claims

/-! ## One register written, and a result written before its flag (R172) -/

theorem regsSame_writeV (s : State) (x : Nibble) (b : Byte) : RegsSame s (writeV s x b) [x] := by
  intro y hy
  have hne : x ≠ y := Ne.symm (by simpa using hy)
  exact readV_writeV_ne s b hne

/-- A write of one register is all that changes. -/
theorem writesOnlyV_writeV {b : Byte} {val : Nat} (s : State) (x : Nibble) (hval : b.toNat = val) :
    WritesOnlyV s (writeV s x b) x val := by
  refine ⟨?_, regsSame_writeV s x b, rfl, fun _ => rfl⟩
  rw [readV_writeV_self, hval]

/-- The flag is what stays in `VF`, and with `X = 15` it is all that stays. -/
theorem writesResultThenFlag_writeResultThenFlag {r f : Byte} {val flag : Nat} (s : State) (x : Nibble)
    (hval : r.toNat = val) (hflag : f.toNat = flag) :
    WritesResultThenFlag s (writeResultThenFlag s x r f) x val flag := by
  refine ⟨fun hx => ?_, ?_, fun y hy => ?_, writeResultThenFlag_frame s x r f, fun _ => rfl⟩
  · rw [readV_writeResultThenFlag_dest s r f hx, hval]
  · exact (congrArg BitVec.toNat (readV_writeResultThenFlag_vf s x r f)).trans hflag
  · have hne : y ≠ x ∧ y ≠ 15 := by simpa using hy
    exact readV_writeResultThenFlag_other s r f hne.1 hne.2

/-! ## The results and the flags as numbers (R170) -/

theorem toNat_flagByte (c : Prop) [Decidable c] : (flagByte (decide c)).toNat = if c then 1 else 0 := by
  by_cases hc : c <;> simp [flagByte, hc]

theorem toNat_carryFlag (a b : Byte) : (carryFlag a b).toNat = if a.toNat + b.toNat > 255 then 1 else 0 := toNat_flagByte _

theorem toNat_notBorrowFlag (a b : Byte) : (notBorrowFlag a b).toNat = if a.toNat ≥ b.toNat then 1 else 0 := toNat_flagByte _

/-- A difference modulo 256 without a negative number on the way. -/
theorem toNat_byte_sub (a b : Byte) : (a - b).toNat = (a.toNat + 256 - b.toNat) % 256 := by
  have hb : b.toNat < 256 := b.isLt
  rw [BitVec.toNat_sub]
  omega

theorem toNat_byte_shiftRight_one (a : Byte) : (a >>> 1).toNat = a.toNat / 2 := BitVec.toNat_ushiftRight a 1

theorem toNat_byte_shiftLeft_one (a : Byte) : (a <<< 1).toNat = a.toNat * 2 % 256 := by
  rw [BitVec.toNat_shiftLeft, Nat.shiftLeft_eq]

/-- Bit 0 of a byte is its remainder modulo 2. -/
theorem toNat_shiftedOutRight (a : Byte) : (shiftedOutRight a).toNat = a.toNat % 2 :=
  (BitVec.toNat_and a 1).trans (Nat.and_one_is_mod _)

/-- Bit 7 of a byte is its quotient by 128: there is no bit above it. -/
theorem toNat_shiftedOutLeft (a : Byte) : (shiftedOutLeft a).toNat = a.toNat / 128 := by
  have ha : a.toNat < 256 := a.isLt
  calc
    (shiftedOutLeft a).toNat = (a >>> 7).toNat % 2 := toNat_shiftedOutRight (a >>> 7)
    _ = a.toNat / 128 % 2 := by rw [BitVec.toNat_ushiftRight, Nat.shiftRight_eq_div_pow]
    _ = a.toNat / 128 := Nat.mod_eq_of_lt (by omega)

/-! ## The obligations -/

/-- Settles O14: both instructions write one register, whichever it is. -/
theorem loadImmediateAndCopyRegister : Obligations.LoadImmediateAndCopyRegister := by
  refine ⟨fun x nn => ⟨decodeWord_encodeWord (i := .ldVxNn x nn) rfl, fun s => ?_⟩,
    fun x y => ⟨decodeWord_encodeWord (i := .ldVxVy x y) rfl, fun s => ?_⟩⟩
  · exact ⟨writeV s x nn, rfl, writesOnlyV_writeV s x rfl⟩
  · exact ⟨writeV s x (readV s y), rfl, writesOnlyV_writeV s x rfl⟩

/-- Settles O15: the addition of bytes is that of numbers modulo 256, and one register is written. -/
theorem addImmediateSetsNoFlag : Obligations.AddImmediateSetsNoFlag := by
  intro x nn
  refine ⟨decodeWord_encodeWord (i := .addVxNn x nn) rfl, fun s => ?_⟩
  exact ⟨writeV s x (readV s x + nn), rfl, writesOnlyV_writeV s x (BitVec.toNat_add _ _)⟩

/-- Settles O16: the bitwise result, then the flag 0. -/
theorem logicClearsTheFlag : Obligations.LogicClearsTheFlag := by
  intro x y
  refine ⟨decodeWord_encodeWord (i := .orVxVy x y) rfl, decodeWord_encodeWord (i := .andVxVy x y) rfl,
    decodeWord_encodeWord (i := .xorVxVy x y) rfl, fun s => ⟨?_, ?_, ?_⟩⟩
  · exact ⟨_, rfl, writesResultThenFlag_writeResultThenFlag s x (BitVec.toNat_or _ _) rfl⟩
  · exact ⟨_, rfl, writesResultThenFlag_writeResultThenFlag s x (BitVec.toNat_and _ _) rfl⟩
  · exact ⟨_, rfl, writesResultThenFlag_writeResultThenFlag s x (BitVec.toNat_xor _ _) rfl⟩

/-- Settles O17: the sum modulo 256, then the carry out of the true sum. -/
theorem addSetsCarry : Obligations.AddSetsCarry := by
  intro x y
  refine ⟨decodeWord_encodeWord (i := .addVxVy x y) rfl, fun s => ⟨_, rfl, ?_⟩⟩
  exact writesResultThenFlag_writeResultThenFlag s x (BitVec.toNat_add _ _) (toNat_carryFlag _ _)

/-- Settles O18: the two differences, then whether the minuend was at least the subtrahend. -/
theorem subtractSetsNotBorrow : Obligations.SubtractSetsNotBorrow := by
  intro x y
  refine ⟨decodeWord_encodeWord (i := .subVxVy x y) rfl, decodeWord_encodeWord (i := .subnVxVy x y) rfl, fun s => ⟨?_, ?_⟩⟩
  · exact ⟨_, rfl, writesResultThenFlag_writeResultThenFlag s x (toNat_byte_sub _ _) (toNat_notBorrowFlag _ _)⟩
  · exact ⟨_, rfl, writesResultThenFlag_writeResultThenFlag s x (toNat_byte_sub _ _) (toNat_notBorrowFlag _ _)⟩

/-- Settles O19: `V[Y]` halved or doubled, then the bit that left it. -/
theorem shiftReadsTheSecondRegister : Obligations.ShiftReadsTheSecondRegister := by
  intro x y
  refine ⟨decodeWord_encodeWord (i := .shrVxVy x y) rfl, decodeWord_encodeWord (i := .shlVxVy x y) rfl, fun s => ⟨?_, ?_⟩⟩
  · exact ⟨_, rfl, writesResultThenFlag_writeResultThenFlag s x (toNat_byte_shiftRight_one _) (toNat_shiftedOutRight _)⟩
  · exact ⟨_, rfl, writesResultThenFlag_writeResultThenFlag s x (toNat_byte_shiftLeft_one _) (toNat_shiftedOutLeft _)⟩

/-- Settles O20: one register is written from `rand8`, and the next byte of the stream takes its place. -/
theorem randomByteIsMasked : Obligations.RandomByteIsMasked := by
  intro x nn
  refine ⟨decodeWord_encodeWord (i := .rndVxNn x nn) rfl, fun s => ⟨takeRand (writeV s x (s.rand8 &&& nn)), rfl, ?_⟩⟩
  exact ⟨readV_writeV_self .., rfl, rfl, regsSame_writeV s x _, rfl, fun _ => rfl⟩

end Sys2Proof.Machine

/-! PROOFS. The index-register and memory instructions (44_index_memory.md R200 to R206). -/

namespace Sys2Proof.Machine

open Sys2Proof.Claims

/-! ## What they make of `I` (R202, R203, R205, R206) -/

/-- `I` plus a byte, modulo 65536: the byte is widened without loss. -/
theorem toNat_add_zext16_byte (i : Word) (b : Byte) : (i + zext16 b).toNat = (i.toNat + b.toNat) % 65536 := by
  rw [BitVec.toNat_add, toNat_zext16 (by decide)]

/-- Five times the low nibble does not leave 16 bits. -/
theorem toNat_glyphAddress (b : Byte) : (glyphAddress b).toNat = b.toNat % 16 * 5 := by
  have hlow : (b &&& 0x0F).toNat = b.toNat % 16 := (BitVec.toNat_and b 0x0F).trans (Nat.and_two_pow_sub_one_eq_mod b.toNat 4)
  rw [glyphAddress, BitVec.toNat_mul, toNat_zext16 (by decide), hlow]
  exact Nat.mod_eq_of_lt (show b.toNat % 16 * 5 < 65536 by omega)

theorem toNat_indexAfterTransfer (s : State) (x : Nibble) :
    (indexAfterTransfer s x).toNat = (s.i.toNat + x.toNat + 1) % 65536 := by
  rw [indexAfterTransfer, BitVec.toNat_add, BitVec.toNat_add, toNat_zext16 (by decide)]
  exact Nat.mod_add_mod (s.i.toNat + x.toNat) 65536 1

/-! ## Blocks of bytes between RAM and the registers (R204 to R206) -/

/-- A block store writes its own bytes alone. -/
theorem ramSameOutside_memWriteBytes {s : State} (h : Memory.wf s.params.font s.mem = true) (a : Nat) (bs : List Byte) :
    RamSameOutside s (memWriteBytes s a bs) a bs.length := fun _ hc => memRead_memWriteBytes_other h bs hc

/-- The state FX33 leaves. -/
def afterBcd (s : State) (x : Nibble) : State := memWriteBytes s (dataAddress s) (bcdDigits (readV s x))

theorem exec_ldBVx (s : State) (x : Nibble) : exec (.ldBVx x) s = .next (afterBcd s x) := rfl

/-- The tens digit, on bytes as on numbers. -/
theorem toNat_div_ten_mod_ten (b : Byte) : (b / 10 % 10).toNat = b.toNat / 10 % 10 := by
  rw [BitVec.toNat_umod, BitVec.toNat_udiv]
  rfl

theorem memRead_afterBcd {s : State} (h : Memory.wf s.params.font s.mem = true) (x : Nibble) {k : Nat} (hk : k < 3) :
    memRead (afterBcd s x) (dataAddress s + k) = (bcdDigits (readV s x))[k]'hk :=
  memRead_memWriteBytes h (bcdDigits (readV s x)) (show 3 ≤ Config.memSize by decide) hk

/-- The state FX55 leaves. -/
def afterStore (s : State) (x : Nibble) : State :=
  writeI (memWriteBytes s (dataAddress s) (readVUpTo s x)) (indexAfterTransfer s x)

theorem exec_ldIndVx (s : State) (x : Nibble) : exec (.ldIndVx x) s = .next (afterStore s x) := rfl

theorem memRead_afterStore {s : State} (h : Memory.wf s.params.font s.mem = true) {x y : Nibble} (hy : y ≤ x) :
    memRead (afterStore s x) (dataAddress s + y.toNat) = readV s y := by
  have hlen : (readVUpTo s x).length ≤ Config.memSize := by
    rw [readVUpTo_length]
    exact Nat.le_trans x.isLt (by decide)
  have hlt : y.toNat < (readVUpTo s x).length := by
    rw [readVUpTo_length]
    exact Nat.lt_succ_of_le hy
  calc
    memRead (afterStore s x) (dataAddress s + y.toNat) = (readVUpTo s x)[y.toNat] := memRead_memWriteBytes h _ hlen hlt
    _ = readV s y := by rw [readVUpTo_getElem, BitVec.ofNat_toNat, BitVec.setWidth_eq]

theorem ramSameOutside_afterStore {s : State} (h : Memory.wf s.params.font s.mem = true) (x : Nibble) :
    RamSameOutside s (afterStore s x) (dataAddress s) (x.toNat + 1) := by
  rw [← readVUpTo_length s x]
  exact ramSameOutside_memWriteBytes h (dataAddress s) (readVUpTo s x)

/-- The state FX65 leaves. -/
def afterLoad (s : State) (x : Nibble) : State :=
  writeI (writeVFrom s 0 (memReadBytes s (dataAddress s) (x.toNat + 1))) (indexAfterTransfer s x)

theorem exec_ldVxInd (s : State) (x : Nibble) : exec (.ldVxInd x) s = .next (afterLoad s x) := rfl

theorem afterLoad_frame (s : State) (x : Nibble) : afterLoad s x = { s with v := (afterLoad s x).v, i := (afterLoad s x).i } :=
  execLdVxInd_frame (exec_ldVxInd s x)

/-- The registers up to `X` hold the bytes from `I` on, the others are as before. -/
theorem readV_afterLoad (s : State) (x y : Nibble) :
    readV (afterLoad s x) y = if y ≤ x then memRead s (dataAddress s + y.toNat) else readV s y := by
  have hlen : 0 + (memReadBytes s (dataAddress s) (x.toNat + 1)).length ≤ 16 := by
    rw [memReadBytes_length, Nat.zero_add]
    exact x.isLt
  have hload : readV (afterLoad s x) y = _ := readV_writeVFrom s 0 _ hlen y
  simpa only [memReadBytes_length, memReadBytes_getElem, Nat.zero_le, true_and, Nat.sub_zero, Nat.lt_succ_iff, BitVec.le_def,
    dite_eq_ite] using hload

/-- A load reads RAM and leaves it as it is. -/
theorem ramSame_afterLoad (s : State) (x : Nibble) : RamSame s (afterLoad s x) := by
  rw [afterLoad_frame]
  exact fun _ => rfl

/-- What a store put into RAM, a load from the same `I` brings back, whatever else has changed between the two. -/
theorem readV_afterLoad_of_ramSame_afterStore {s r : State} {x y : Nibble} (h : Memory.wf s.params.font s.mem = true)
    (hram : RamSame (afterStore s x) r) (hi : r.i = s.i) (hy : y ≤ x) : readV (afterLoad r x) y = readV s y :=
  calc
    readV (afterLoad r x) y = memRead r (dataAddress r + y.toNat) := by rw [readV_afterLoad, if_pos hy]
    _ = memRead r (dataAddress s + y.toNat) := by rw [dataAddress, dataAddress, hi]
    _ = memRead (afterStore s x) (dataAddress s + y.toNat) := hram _
    _ = readV s y := memRead_afterStore h hy

/-! ## The obligations -/

/-- Settles O33: each of the three writes `I` alone. -/
theorem indexRegisterLoads : Obligations.IndexRegisterLoads := by
  refine ⟨fun nnn => ⟨decodeWord_encodeWord (i := .ldINnn nnn) rfl, fun s => ?_⟩,
    fun x => ⟨decodeWord_encodeWord (i := .addIVx x) rfl, decodeWord_encodeWord (i := .ldFVx x) rfl, fun s => ⟨?_, ?_⟩⟩⟩
  · exact ⟨writeI s (zext16 nnn), rfl, toNat_zext16 (by decide) nnn, rfl, fun _ => rfl⟩
  · exact ⟨writeI s (s.i + zext16 (readV s x)), rfl, toNat_add_zext16_byte _ _, rfl, fun _ => rfl⟩
  · exact ⟨writeI s (glyphAddress (readV s x)), rfl, toNat_glyphAddress _, rfl, fun _ => rfl⟩

/-- Settles O34: the three digits are a block store, and each is read back at its address. -/
theorem bcdStoresThreeDigits : Obligations.BcdStoresThreeDigits := by
  intro x
  refine ⟨decodeWord_encodeWord (i := .ldBVx x) rfl, fun s h => ⟨afterBcd s x, exec_ldBVx s x, ?_, ?_, ?_,
    ramSameOutside_memWriteBytes h (dataAddress s) (bcdDigits (readV s x)), rfl⟩⟩
  · exact (congrArg BitVec.toNat (memRead_afterBcd h x (k := 0) (by decide))).trans BitVec.toNat_udiv
  · exact (congrArg BitVec.toNat (memRead_afterBcd h x (k := 1) (by decide))).trans (toNat_div_ten_mod_ten _)
  · exact (congrArg BitVec.toNat (memRead_afterBcd h x (k := 2) (by decide))).trans BitVec.toNat_umod

/-- Settles O35: the registers are a block store from the old `I`, which is advanced after it. -/
theorem storeRegistersAdvancesIndex : Obligations.StoreRegistersAdvancesIndex := by
  intro x
  refine ⟨decodeWord_encodeWord (i := .ldIndVx x) rfl, fun s h => ⟨afterStore s x, exec_ldIndVx s x, ?_⟩⟩
  exact ⟨fun _ hy => memRead_afterStore h hy, toNat_indexAfterTransfer s x, ramSameOutside_afterStore h x, rfl⟩

/-- Settles O36: the bytes from the old `I` are loaded into the registers up to `X` and no further. -/
theorem loadRegistersAdvancesIndex : Obligations.LoadRegistersAdvancesIndex := by
  intro x
  refine ⟨decodeWord_encodeWord (i := .ldVxInd x) rfl, fun s => ⟨afterLoad s x, exec_ldVxInd s x, fun y hy => ?_,
    fun y hy => ?_, toNat_indexAfterTransfer s x, afterLoad_frame s x, ramSame_afterLoad s x⟩⟩
  · rw [readV_afterLoad, if_pos hy]
  · rw [readV_afterLoad, if_neg (BitVec.not_le.mpr hy)]

/-- Settles O37: the load reads the bytes the store wrote, from the same `I`, and advances it alike. -/
theorem loadUndoesStore : Obligations.LoadUndoesStore := by
  intro x s h
  refine ⟨afterStore s x, exec_ldIndVx s x, fun v => ⟨_, exec_ldVxInd _ x, fun y hy => ?_, rfl⟩⟩
  exact readV_afterLoad_of_ramSame_afterStore h (fun _ => rfl) rfl hy

end Sys2Proof.Machine

/-! PROOFS. The keypad and timer instructions, the wait for a key kept at its FX0A, and what each instruction may write
(45_keypad_timers.md R220 to R227). -/

namespace Sys2Proof.Machine

open Sys2Proof.Claims

/-! ## The key FX0A records (R223, D7) -/

theorem lowestKeyHeld_eq_none {s : State} (h : ∀ j, keyHeld s j = false) : lowestKeyHeld s = none :=
  List.find?_eq_none.mpr fun j _ => by simp [h j]

/-- The scan by number meets a held key first when every lower key is up. -/
theorem lowestKeyHeld_eq_some {s : State} {k : Nibble} (hk : keyHeld s k = true) (hlow : ∀ j, j < k → keyHeld s j = false) :
    lowestKeyHeld s = some k := by
  have hfind : (List.range 16).find? (keyHeld s ∘ BitVec.ofNat 4) = some k.toNat := by
    refine List.find?_range_eq_some.mpr ⟨by simpa using hk, List.mem_range.mpr k.isLt, fun j hj => ?_⟩
    have hlt : BitVec.ofNat 4 j < k := by
      rw [BitVec.lt_def, BitVec.toNat_ofNat]
      exact Nat.lt_of_le_of_lt (Nat.mod_le j _) hj
    simp [hlow _ hlt]
  rw [lowestKeyHeld, List.find?_map, hfind]
  simp

/-! ## FX0A: one equation per row of the table of R226, and its inversion -/

section
variable {s : State} (x : Nibble)

theorem exec_ldVxK_of_no_key (hwk : s.wk = .none) (hkey : lowestKeyHeld s = none) :
    exec (.ldVxK x) s = .next (rewindPc s) := by
  simp [exec, execLdVxK, hwk, hkey]

theorem exec_ldVxK_of_key {k0 : Nibble} (hwk : s.wk = .none) (hkey : lowestKeyHeld s = some k0) :
    exec (.ldVxK x) s = .next (rewindPc (writeWk s (.seen k0))) := by
  simp [exec, execLdVxK, hwk, hkey]

theorem exec_ldVxK_of_still_held {k : Nibble} (hwk : s.wk = .seen k) (hkey : keyHeld s k = true) :
    exec (.ldVxK x) s = .next (rewindPc s) := by
  simp [exec, execLdVxK, hwk, hkey]

theorem exec_ldVxK_of_released {k : Nibble} (hwk : s.wk = .seen k) (hkey : keyHeld s k = false) :
    exec (.ldVxK x) s = .next (writeWk (writeV s x (zext8 k)) .none) := by
  simp [exec, execLdVxK, hwk, hkey]

end

/-- FX0A steps back and writes no register, or it loads the released key and records none. -/
theorem exec_ldVxK_cases {x : Nibble} {s t : State} (h : exec (.ldVxK x) s = .next t) :
    (t.pc = s.pc - 2 ∧ t.v = s.v) ∨ ∃ k : Nibble, t = writeWk (writeV s x (zext8 k)) .none := by
  cases hwk : s.wk with
  | none =>
    cases hkey : lowestKeyHeld s with
    | none => cases (exec_ldVxK_of_no_key x hwk hkey).symm.trans h; exact .inl ⟨rfl, rfl⟩
    | some k0 => cases (exec_ldVxK_of_key x hwk hkey).symm.trans h; exact .inl ⟨rfl, rfl⟩
  | seen k =>
    cases hkey : keyHeld s k with
    | true => cases (exec_ldVxK_of_still_held x hwk hkey).symm.trans h; exact .inl ⟨rfl, rfl⟩
    | false => cases (exec_ldVxK_of_released x hwk hkey).symm.trans h; exact .inr ⟨k, rfl⟩

/-! ## The wait for a key stays at its FX0A (10_state.md R33, R226) -/

/-- Of the instructions only FX0A writes `wk`. -/
theorem exec_wk {i : Instr} {s t : State} (h : exec i s = .next t) : t.wk = s.wk ∨ ∃ x, i = .ldVxK x := by
  cases i
  case ldVxK x => exact .inr ⟨x, rfl⟩
  case ret => rw [execRet_frame h]; exact .inl rfl
  case callNnn => rw [execCallNnn_frame h]; exact .inl rfl
  case ldVxInd => rw [execLdVxInd_frame h]; exact .inl rfl
  all_goals
    cases h
    exact .inl rfl

/-- The wait depends on `wk` and on what is fetched at `pc` alone. -/
theorem waitPinned_congr {s t : State} (hs : WaitPinned s) (hwk : t.wk = s.wk) (hfetch : fetchWord t = fetchWord s) :
    WaitPinned t := by
  intro hwait
  obtain ⟨x, hx⟩ := hs (hwk ▸ hwait)
  exact ⟨x, instrAt_iff.mpr (by rw [hfetch, instrAt_iff.mp hx])⟩

/-- An FX0A after which a key is recorded has stepped back to itself. -/
theorem fetchWord_of_exec_ldVxK {x : Nibble} {s t : State} (h : exec (.ldVxK x) (afterFetch s) = .next t) (hwait : t.wk ≠ .none) :
    fetchWord t = fetchWord s := by
  obtain ⟨hpc, _⟩ | ⟨k, rfl⟩ := exec_ldVxK_cases h
  · have hframe : t = { afterFetch s with v := t.v, pc := t.pc, wk := t.wk } := execLdVxK_frame h
    have hback : t.pc = s.pc := hpc.trans (BitVec.add_sub_cancel s.pc 2)
    exact fetchWord_congr (by rw [hframe]; rfl) (by rw [hframe]; rfl) hback
  · exact absurd rfl hwait

/-- A cycle after which a key is recorded was that of an FX0A: the wait was at one, or only an FX0A can have begun it. -/
theorem waitPinned_of_exec {s u : State} (hs : WaitPinned s) (hu : exec (decodeWord (fetchWord s)) (afterFetch s) = .next u) :
    WaitPinned u := by
  intro hwait
  have hinstr : ∃ x, decodeWord (fetchWord s) = .ldVxK x := by
    obtain hsame | hx := exec_wk hu
    · obtain ⟨x, hx⟩ := hs (hsame ▸ hwait)
      exact ⟨x, instrAt_iff.mp hx⟩
    · exact hx
  obtain ⟨x, hx⟩ := hinstr
  have hfetch : fetchWord u = fetchWord s := fetchWord_of_exec_ldVxK (hx ▸ hu) hwait
  exact ⟨x, instrAt_iff.mpr (by rw [hfetch, hx])⟩

/-- Where a boot comes next, the step is the boot sequence (70_reset_and_hazards.md R290). -/
theorem step_of_bootNext {s : State} (h : BootNext s) : step s = boot (beginStep s) := by
  obtain ⟨hphase, hreset | ⟨hexecute, hrun⟩⟩ := h
  · simp [step, machineStep, hphase, hreset]
  · simp [step, machineStep, frameStep, selectBatch, hexecute, hrun]

/-- Settles O56: a boot records no key, a cycle that leaves one recorded ran an FX0A that stepped back, and no other step writes
`wk`, `pc` or RAM. -/
theorem stepKeepsTheKeyWaitAtItsInstruction : Obligations.StepKeepsTheKeyWaitAtItsInstruction := by
  intro s t hs h
  by_cases hcycle : CycleNext s
  · obtain ⟨u, hu, rfl⟩ := onNext_eq_next.mp ((step_of_cycleNext hcycle).symm.trans h)
    exact waitPinned_congr (waitPinned_of_exec hs hu) rfl rfl
  by_cases hboot : BootNext s
  · obtain ⟨_, rfl⟩ := boot_eq_next.mp ((step_of_bootNext hboot).symm.trans h)
    exact fun hwait => absurd rfl hwait
  · have hframe := step_frame_of_not_cycleNext h hcycle hboot
    exact waitPinned_congr hs (by rw [hframe]) (by rw [hframe]; rfl)

/-! ## What each instruction may write (R227, 10_state.md R21, R22, R27) -/

/-- `s` with the elements that the table of R227, and for RAM R27, lists for `i` as they are in `t`. The data registers and what
one instruction alone writes (`DT`, `ST`, `wk`, `rand8`) have lemmas of their own. -/
def withListedWrites (i : Instr) (s t : State) : State :=
  { s with
    i := if writesIndex i then t.i else s.i
    mem := if writesRam i then t.mem else s.mem
    sp := if writesStack i then t.sp else s.sp
    stack := if writesStack i then t.stack else s.stack
    fault := if writesStack i then t.fault else s.fault
    batchLeft := if writesStack i then t.batchLeft else s.batchLeft
    pc := if writesPc i then t.pc else s.pc
    disp := if writesDisplay i then t.disp else s.disp
    v := t.v, dt := t.dt, st := t.st, wk := t.wk, rand8 := t.rand8, randTaken := t.randTaken, debugOut := t.debugOut }

theorem exec_eq_withListedWrites {i : Instr} {s t : State} (h : exec i s = .next t) : t = withListedWrites i s t := by
  cases i
  case ret => rw [execRet_frame h]; rfl
  case callNnn => rw [execCallNnn_frame h]; rfl
  case ldVxK => rw [execLdVxK_frame h]; rfl
  case ldVxInd => rw [execLdVxInd_frame h]; rfl
  all_goals
    cases h
    rfl

/-- Of the instructions only CXNN takes a byte from `rand8` (43_load_alu.md R184). -/
theorem exec_rand {i : Instr} {s t : State} (h : exec i s = .next t) :
    (t.rand8 = s.rand8 ∧ t.randTaken = s.randTaken) ∨ ∃ x nn, i = .rndVxNn x nn := by
  cases i
  case rndVxNn x nn => exact .inr ⟨x, nn, rfl⟩
  case ret => rw [execRet_frame h]; exact .inl ⟨rfl, rfl⟩
  case callNnn => rw [execCallNnn_frame h]; exact .inl ⟨rfl, rfl⟩
  case ldVxK => rw [execLdVxK_frame h]; exact .inl ⟨rfl, rfl⟩
  case ldVxInd => rw [execLdVxInd_frame h]; exact .inl ⟨rfl, rfl⟩
  all_goals
    cases h
    exact .inl ⟨rfl, rfl⟩

theorem readV_writeV_of_beq_eq_false {x y : Nibble} (s : State) (b : Byte) (h : (x == y) = false) :
    readV (writeV s x b) y = readV s y := readV_writeV_ne s b (by simpa using h)

theorem readV_writeResultThenFlag_of_beq_eq_false {x y : Nibble} (s : State) (r f : Byte) (h : (x == y || y == 15) = false) :
    readV (writeResultThenFlag s x r f) y = readV s y := by
  obtain ⟨hx, hf⟩ : x ≠ y ∧ y ≠ 15 := by simpa using h
  exact readV_writeResultThenFlag_other s r f hx.symm hf

/-- No instruction writes a data register but those its fields name and `VF` where it is a flag. -/
theorem exec_readV {i : Instr} {s t : State} (h : exec i s = .next t) {y : Nibble} (hy : mayWriteV i y = false) :
    readV t y = readV s y := by
  cases i
  case ret => rw [execRet_frame h]; rfl
  case callNnn => rw [execCallNnn_frame h]; rfl
  case ldVxK x =>
    obtain ⟨_, hv⟩ | ⟨k, rfl⟩ := exec_ldVxK_cases h
    · exact readV_congr hv y
    · exact readV_writeV_of_beq_eq_false s (zext8 k) hy
  case ldVxInd x =>
    cases h
    exact (readV_afterLoad s x y).trans (if_neg (of_decide_eq_false hy))
  case drwVxVyN x z n =>
    cases h
    exact readV_afterDraw_of_ne s x z n (by simpa [mayWriteV] using hy)
  case ldVxNn | addVxNn | ldVxVy | rndVxNn | ldVxDt =>
    cases h
    exact readV_writeV_of_beq_eq_false s _ hy
  case orVxVy | andVxVy | xorVxVy | addVxVy | subVxVy | shrVxVy | subnVxVy | shlVxVy =>
    cases h
    exact readV_writeResultThenFlag_of_beq_eq_false s _ _ hy
  all_goals
    cases h
    rfl

section
variable {i : Instr} {s t : State} (h : exec i s = .next t)
include h

theorem exec_index (hi : writesIndex i = false) : t.i = s.i := by
  rw [exec_eq_withListedWrites h]
  simp [withListedWrites, hi]

theorem exec_ramSame (hi : writesRam i = false) : RamSame s t := by
  refine memRead_congr ?_ (exec_params h)
  rw [exec_eq_withListedWrites h]
  simp [withListedWrites, hi]

theorem exec_stack (hi : writesStack i = false) :
    t.sp = s.sp ∧ t.stack = s.stack ∧ t.fault = s.fault ∧ t.batchLeft = s.batchLeft := by
  rw [exec_eq_withListedWrites h]
  simp [withListedWrites, hi]

theorem exec_pc (hi : writesPc i = false) : t.pc = s.pc := by
  rw [exec_eq_withListedWrites h]
  simp [withListedWrites, hi]

theorem exec_display (hi : writesDisplay i = false) : t.disp = s.disp := by
  rw [exec_eq_withListedWrites h]
  simp [withListedWrites, hi]

end

/-- Settles O10: the elements the table lists by instruction, those that one instruction alone writes, and those that none does. -/
theorem instructionsWriteOnlyTheirState : Obligations.InstructionsWriteOnlyTheirState := by
  intro i s t h
  obtain ⟨hdt, hst⟩ := exec_timers h
  refine ⟨fun _ => exec_readV h, exec_index h, exec_ramSame h, exec_stack h, exec_pc h, exec_display h,
    fun hno => ?_, fun hno => ?_, fun hno => ?_, fun hno => ?_, ?_⟩
  · exact hdt.resolve_right fun ⟨x, hx⟩ => hno x hx
  · exact hst.resolve_right fun ⟨x, hx⟩ => hno x hx
  · exact (exec_wk h).resolve_right fun ⟨x, hx⟩ => hno x hx
  · exact (exec_rand h).resolve_right fun ⟨x, nn, hx⟩ => hno x nn hx
  · rw [exec_frame h]
    exact ⟨rfl, rfl, rfl, rfl, rfl, rfl, rfl, rfl, rfl, rfl⟩

/-! ## The keypad and timer instructions (R220 to R226) -/

/-- Settles O40: the four rows of the table of R226, each with what it changes. -/
theorem keyWaitTransitions : Obligations.KeyWaitTransitions := by
  intro x
  refine ⟨decodeWord_encodeWord (i := .ldVxK x) rfl, fun s => ⟨fun hwk hup => ?_, fun k0 hwk hk hlow => ?_,
    fun k hwk hk => ?_, fun k hwk hk => ?_⟩⟩
  · exact exec_ldVxK_of_no_key x hwk (lowestKeyHeld_eq_none hup)
  · exact exec_ldVxK_of_key x hwk (lowestKeyHeld_eq_some hk hlow)
  · exact exec_ldVxK_of_still_held x hwk hk
  · refine ⟨_, exec_ldVxK_of_released x hwk hk, ?_, regsSame_writeV s x (zext8 k), rfl, fun _ => rfl⟩
    exact (congrArg BitVec.toNat (readV_writeV_self s x (zext8 k))).trans (BitVec.toNat_setWidth_of_le (by decide))

/-- EX9E and EXA1 test the low nibble alone. -/
theorem toNat_keyNumber (s : State) (x : Nibble) : (keyNumber s x).toNat = (readV s x).toNat % 16 := by
  simp [keyNumber]

/-- Settles O38: the key tested is the one of the low nibble, and a skip writes `pc` alone. -/
theorem skipsOnKey : Obligations.SkipsOnKey := by
  intro x
  refine ⟨decodeWord_encodeWord (i := .skpVx x) rfl, decodeWord_encodeWord (i := .sknpVx x) rfl, fun s k hk => ?_⟩
  obtain rfl : k = keyNumber s x := BitVec.eq_of_toNat_eq (hk.trans (toNat_keyNumber s x).symm)
  exact ⟨⟨_, rfl, skipsWhen_skipIf _ s⟩, ⟨_, rfl, skipsWhen_skipIf _ s⟩⟩

/-- Settles O39: each of the three writes one register. -/
theorem timerTransfers : Obligations.TimerTransfers := by
  intro x
  refine ⟨decodeWord_encodeWord (i := .ldVxDt x) rfl, decodeWord_encodeWord (i := .ldDtVx x) rfl,
    decodeWord_encodeWord (i := .ldStVx x) rfl, fun s => ⟨?_, ?_, ?_⟩⟩
  · exact ⟨writeV s x s.dt, rfl, writesOnlyV_writeV s x rfl⟩
  · exact ⟨writeDt s (readV s x), rfl, rfl, rfl, fun _ => rfl⟩
  · exact ⟨writeSt s (readV s x), rfl, rfl, rfl, fun _ => rfl⟩

end Sys2Proof.Machine

/-! PROOFS. The tracer does not interfere (60_exceptions.md R264): no update and no step reads `DEBUG_EN` or `debug_out` for
anything but `debug_out`, one lemma per function the step is made of. -/

namespace Sys2Proof.Machine

open Sys2Proof.Claims

/-! ## Updates and results that ignore the tracer, and how they combine -/

/-- What the tracer shows before the update shows in nothing else after it. -/
def UpdateIgnoresTracer (g : State → State) : Prop := ∀ s, untraced (g (untraced s)) = untraced (g s)

/-- What the tracer shows decides neither the outcome nor anything else of the next state. -/
def ResultIgnoresTracer (f : State → Result) : Prop := ∀ s, onNext (f (untraced s)) untraced = onNext (f s) untraced

section
variable {f f' : State → Result} {g : State → State}

theorem ResultIgnoresTracer.next (hg : UpdateIgnoresTracer g) : ResultIgnoresTracer fun s => .next (g s) :=
  fun s => congrArg _ (hg s)

theorem ResultIgnoresTracer.ite {c : State → Prop} [DecidablePred c] (hc : ∀ s, c (untraced s) ↔ c s)
    (hf : ResultIgnoresTracer f) (hf' : ResultIgnoresTracer f') :
    ResultIgnoresTracer fun s => if c s then f s else f' s := by
  intro s
  dsimp only
  by_cases h : c s
  · rw [if_pos h, if_pos ((hc s).mpr h)]
    exact hf s
  · rw [if_neg h, if_neg (mt (hc s).mp h)]
    exact hf' s

/-- First an update, then a step. -/
theorem ResultIgnoresTracer.comp (hf : ResultIgnoresTracer f) (hg : UpdateIgnoresTracer g) :
    ResultIgnoresTracer fun s => f (g s) := by
  intro s
  calc onNext (f (g (untraced s))) untraced
      = onNext (f (untraced (g (untraced s)))) untraced := (hf _).symm
    _ = onNext (f (untraced (g s))) untraced := by rw [hg]
    _ = onNext (f (g s)) untraced := hf _

theorem onNext_untraced_onNext (hg : UpdateIgnoresTracer g) (r : Result) :
    onNext (onNext (onNext r untraced) g) untraced = onNext (onNext r g) untraced := by
  cases r with
  | next s => exact congrArg _ (hg s)
  | fault e => rfl
  | refused e => rfl

/-- First a step, then an update. -/
theorem ResultIgnoresTracer.onNext (hf : ResultIgnoresTracer f) (hg : UpdateIgnoresTracer g) :
    ResultIgnoresTracer fun s => onNext (f s) g := by
  intro s
  dsimp only
  rw [← onNext_untraced_onNext hg (f (untraced s)), hf s, onNext_untraced_onNext hg]

end

/-! ## The updates that go over a list -/

theorem writeVFrom_untraced (s : State) (k : Nat) (bs : List Byte) :
    writeVFrom (untraced s) k bs = untraced (writeVFrom s k bs) := by
  induction bs generalizing s k with
  | nil => rfl
  | cons b rest ih => exact ih (writeV s (BitVec.ofNat 4 k) b) (k + 1)

theorem applyEvents_untraced (evs : List Event) (s : State) :
    evs.foldl applyEvent (untraced s) = untraced (evs.foldl applyEvent s) := by
  induction evs generalizing s with
  | nil => rfl
  | cons e rest ih =>
    have he : applyEvent (untraced s) e = untraced (applyEvent s e) := by cases e <;> rfl
    rw [List.foldl_cons, List.foldl_cons, he, ih]

theorem drain_ignoresTracer : UpdateIgnoresTracer drain := by
  intro s
  change untraced { s.pend.foldl applyEvent (untraced s) with pend := [] } = _
  rw [applyEvents_untraced]
  rfl

/-! ## The instruction cycle -/

theorem execLdVxK_ignoresTracer (x : Nibble) : ResultIgnoresTracer (execLdVxK x) := by
  intro s
  unfold execLdVxK
  rw [show (untraced s).wk = s.wk from rfl, show lowestKeyHeld (untraced s) = lowestKeyHeld s from rfl]
  cases s.wk with
  | none => cases lowestKeyHeld s <;> rfl
  | seen k =>
    dsimp only
    rw [show keyHeld (untraced s) k = keyHeld s k from rfl]
    cases keyHeld s k <;> rfl

theorem execLdVxInd_ignoresTracer (x : Nibble) : ResultIgnoresTracer (execLdVxInd x) := by
  intro s
  have hload : writeVFrom (untraced s) 0 (memReadBytes (untraced s) (dataAddress (untraced s)) (x.toNat + 1)) =
      untraced (writeVFrom s 0 (memReadBytes s (dataAddress s) (x.toNat + 1))) := writeVFrom_untraced ..
  unfold execLdVxInd
  rw [hload]
  rfl

theorem exec_ignoresTracer (i : Instr) : ResultIgnoresTracer (exec i) := by
  cases i
  case ret => exact .ite (c := fun s => s.sp = 0) (fun _ => .rfl) (.next fun _ => rfl) (.next fun _ => rfl)
  case callNnn => exact .ite (c := fun s => s.sp = 12) (fun _ => .rfl) (.next fun _ => rfl) (.next fun _ => rfl)
  case ldVxK x => exact execLdVxK_ignoresTracer x
  case ldVxInd x => exact execLdVxInd_ignoresTracer x
  all_goals exact fun _ => rfl

theorem instructionCycle_ignoresTracer : ResultIgnoresTracer instructionCycle := by
  intro s
  have hexec : ResultIgnoresTracer fun s' => exec (decodeWord (fetchWord s)) (beginCycle s') :=
    (exec_ignoresTracer _).comp fun _ => rfl
  exact hexec.onNext (g := countCycle) (fun _ => rfl) s

/-! ## The step -/

theorem boot_ignoresTracer : ResultIgnoresTracer boot :=
  .ite (c := fun s => s.params.rom.length > Config.romMax) (fun _ => .rfl) (fun _ => rfl) (.next fun _ => rfl)

theorem selectBatch_ignoresTracer : ResultIgnoresTracer selectBatch := by
  intro s
  unfold selectBatch
  rw [show (untraced s).run = s.run from rfl]
  cases s.run with
  | quit => rfl
  | restart => exact boot_ignoresTracer s
  | paused => rfl
  | running =>
    exact ResultIgnoresTracer.ite (c := fun s => s.fault = .noFault) (fun _ => .rfl)
      (.next (g := fun s => setPhase (startBatch s) .batch) fun _ => rfl) (.next (g := (setPhase · .tick)) fun _ => rfl) s

theorem batchStep_ignoresTracer : ResultIgnoresTracer batchStep :=
  .ite (c := fun s => canCycle s = true) (fun _ => .rfl) instructionCycle_ignoresTracer (.next fun _ => rfl)

theorem frameStep_ignoresTracer : ResultIgnoresTracer frameStep := by
  intro s
  unfold frameStep
  rw [show (untraced s).phase = s.phase from rfl]
  cases s.phase with
  | input =>
    exact ResultIgnoresTracer.comp (f := fun s => .next (setPhase s .execute)) (.next fun _ => rfl) drain_ignoresTracer s
  | execute => exact selectBatch_ignoresTracer s
  | batch => exact batchStep_ignoresTracer s
  | pad | tick | present | stopped => rfl

theorem step_ignoresTracer : ResultIgnoresTracer step :=
  .ite (c := fun s => s.phase = .stopped) (fun _ => .rfl) (.next (g := id) fun _ => rfl)
    (.ite (c := fun s => s.resetIn = some 0) (fun _ => .rfl)
      (boot_ignoresTracer.comp fun _ => rfl) (frameStep_ignoresTracer.comp fun _ => rfl))

/-- From states alike but for the tracer one step answers states alike but for it. -/
theorem step_congr_untraced {s s' t : State} (h : untraced s = untraced s') (ht : step s = .next t) :
    ∃ t', step s' = .next t' ∧ untraced t = untraced t' := by
  have hstep : onNext (step s') untraced = .next (untraced t) := by
    rw [← step_ignoresTracer, ← h, step_ignoresTracer, ht]
    rfl
  obtain ⟨t', ht', hsame⟩ := onNext_eq_next.mp hstep
  exact ⟨t', ht', hsame.symm⟩

/-- Settles O58, by induction on the length of the run. -/
theorem tracerDoesNotInterfere : Obligations.TracerDoesNotInterfere := by
  intro s s' h k
  induction k generalizing s s' with
  | zero =>
    intro t ht
    cases ht
    exact ⟨s', rfl, h⟩
  | succ k ih =>
    intro t ht
    obtain ⟨u, hu, hrest⟩ := run_succ_eq_next.mp ht
    obtain ⟨u', hu', hsame⟩ := step_congr_untraced h hu
    rw [run_succ hu']
    exact ih u u' hsame t hrest

end Sys2Proof.Machine

/-! PROOFS. The frame: the step of each phase, when a step stops, the drain, the batch of `IPF` cycles, the timer tick, the
presentation and the stop (60_exceptions.md R243 to R261). -/

namespace Sys2Proof.Machine

open Sys2Proof.Claims

/-! ## The step, by phase (R250, log 11) -/

section
variable {s : State}

theorem step_of_stopped (hphase : s.phase = .stopped) : step s = .next s := if_pos hphase

/-- Before CORE has stopped and while `reset` is not asserted the step is the next one of the frame. -/
theorem step_eq_frameStep (hphase : s.phase ≠ .stopped) (hreset : s.resetIn ≠ some 0) :
    step s = frameStep (beginStep s) := (if_neg hphase).trans (if_neg hreset)

theorem step_of_pad (hphase : s.phase = .pad) (hreset : s.resetIn ≠ some 0) :
    step s = .next (setPhase (awaitFrame (beginStep s)) .input) := by
  simp [step_eq_frameStep, frameStep, hphase, hreset]

theorem step_of_input (hphase : s.phase = .input) (hreset : s.resetIn ≠ some 0) :
    step s = .next (setPhase (drain (beginStep s)) .execute) := by
  simp [step_eq_frameStep, frameStep, hphase, hreset]

theorem step_of_execute (hphase : s.phase = .execute) (hreset : s.resetIn ≠ some 0) :
    step s = selectBatch (beginStep s) := by
  simp [step_eq_frameStep, frameStep, hphase, hreset]

theorem step_of_tick (hphase : s.phase = .tick) (hreset : s.resetIn ≠ some 0) :
    step s = .next (setPhase (timerTick (beginStep s)) .present) := by
  simp [step_eq_frameStep, frameStep, hphase, hreset]

theorem step_of_present (hphase : s.phase = .present) (hreset : s.resetIn ≠ some 0) :
    step s = .next (setPhase (presentDisplay (beginStep s)) .pad) := by
  simp [step_eq_frameStep, frameStep, hphase, hreset]

/-- In a batch that cannot go on the step goes on to the timer tick. -/
theorem step_of_batch_over (hphase : s.phase = .batch) (hreset : s.resetIn ≠ some 0) (hcycle : canCycle s = false) :
    step s = .next (setPhase (beginStep s) .tick) := by
  have hcan : canCycle (beginStep s) = false := hcycle
  simp [step_eq_frameStep, frameStep, batchStep, hphase, hreset, hcan]

/-! ## The case on `run` after the drain (R250, R252) -/

theorem step_of_execute_quit (hphase : s.phase = .execute) (hreset : s.resetIn ≠ some 0) (hrun : s.run = .quit) :
    step s = .next (setPhase (beginStep s) .stopped) := by
  rw [step_of_execute hphase hreset]
  simp [selectBatch, hrun]

/-- A paused and a faulted core go to the timer tick. -/
theorem step_of_execute_idle (hphase : s.phase = .execute) (hreset : s.resetIn ≠ some 0)
    (hidle : s.run = .paused ∨ (s.run = .running ∧ s.fault ≠ .noFault)) :
    step s = .next (setPhase (beginStep s) .tick) := by
  rw [step_of_execute hphase hreset]
  obtain hrun | ⟨hrun, hfault⟩ := hidle
  · simp [selectBatch, hrun]
  · simp [selectBatch, hrun, hfault]

theorem step_of_execute_running (hphase : s.phase = .execute) (hreset : s.resetIn ≠ some 0) (hrun : s.run = .running)
    (hfault : s.fault = .noFault) : step s = .next (setPhase (startBatch (beginStep s)) .batch) := by
  rw [step_of_execute hphase hreset]
  simp [selectBatch, hrun, hfault]

end

/-- Settles O46: the four cases on `run` and `fault` in which the frame does not boot. -/
theorem frameSelectsByRunState : Obligations.FrameSelectsByRunState := fun _ hphase hreset =>
  ⟨step_of_execute_quit hphase hreset, fun hrun => step_of_execute_idle hphase hreset (.inl hrun),
    fun hrun hfault => step_of_execute_idle hphase hreset (.inr ⟨hrun, hfault⟩), step_of_execute_running hphase hreset⟩

/-- Settles O53, by induction on the length of the run. -/
theorem stoppedForGood : Obligations.StoppedForGood := by
  intro k s hphase
  induction k with
  | zero => rfl
  | succ k ih => exact (run_succ (step_of_stopped hphase)).trans ih

/-! ## When an instruction and a step stop (R241, R243) -/

/-- Settles O7: no instruction stops the machine. -/
theorem everyInstructionCompletes : Obligations.EveryInstructionCompletes := exists_exec_eq_next

/-- A CALL from the full stack raises (R153). -/
theorem exec_callNnn_of_full {s : State} (nnn : Addr12) (h : s.sp.val = 12) :
    exec (.callNnn nnn) s = .next (raiseStackOverflow s) := if_pos (Fin.ext h)

/-- A RET from the empty stack raises (R151). -/
theorem exec_ret_of_empty {s : State} (h : s.sp.val = 0) : exec .ret s = .next (raiseStackUnderflow s) := if_pos (Fin.ext h)

/-- Settles O27: the two raises latch, log and end the batch, and write nothing else. -/
theorem stackFaultsLatchAndEndTheBatch : Obligations.StackFaultsLatchAndEndTheBatch := fun _ =>
  ⟨fun h nnn => exec_callNnn_of_full nnn h, exec_ret_of_empty⟩

/-- A step that is no boot answers a next state: so does every instruction, and so does every other step of a frame. -/
theorem exists_step_eq_next {s : State} (hboot : ¬ BootNext s) : ∃ t, step s = .next t := by
  by_cases hcycle : CycleNext s
  · obtain ⟨u, hu⟩ := exists_exec_eq_next (decodeWord (fetchWord s)) (afterFetch s)
    exact ⟨countCycle u, (step_of_cycleNext hcycle).trans (onNext_eq_next.mpr ⟨u, hu, rfl⟩)⟩
  by_cases hstopped : s.phase = .stopped
  · exact ⟨s, step_of_stopped hstopped⟩
  have hreset : s.resetIn ≠ some 0 := fun h => hboot ⟨hstopped, .inl h⟩
  cases hphase : s.phase with
  | pad => exact ⟨_, step_of_pad hphase hreset⟩
  | input => exact ⟨_, step_of_input hphase hreset⟩
  | execute =>
    cases hrun : s.run with
    | quit => exact ⟨_, step_of_execute_quit hphase hreset hrun⟩
    | restart => exact absurd ⟨hstopped, .inr ⟨hphase, hrun⟩⟩ hboot
    | paused => exact ⟨_, step_of_execute_idle hphase hreset (.inl hrun)⟩
    | running =>
      by_cases hfault : s.fault = .noFault
      · exact ⟨_, step_of_execute_running hphase hreset hrun hfault⟩
      · exact ⟨_, step_of_execute_idle hphase hreset (.inr ⟨hrun, hfault⟩)⟩
  | batch =>
    refine ⟨_, step_of_batch_over hphase hreset (Bool.eq_false_iff.mpr fun hcan => hcycle ?_)⟩
    simp only [canCycle, Bool.and_eq_true, decide_eq_true_eq] at hcan
    obtain ⟨⟨hrun, hfault⟩, hpos⟩ := hcan
    exact ⟨hphase, hrun, hfault, hpos, hreset⟩
  | tick => exact ⟨_, step_of_tick hphase hreset⟩
  | present => exact ⟨_, step_of_present hphase hreset⟩
  | stopped => exact absurd hphase hstopped

/-- Settles O8: a step that is no boot goes on, and a boot refuses an oversize image only. -/
theorem stepStopsOnlyForAnOversizeRom : Obligations.StepStopsOnlyForAnOversizeRom := by
  intro s
  by_cases hboot : BootNext s
  · by_cases hlen : s.params.rom.length ≤ 3584
    · exact .inl ⟨_, (step_of_bootNext hboot).trans (boot_eq_next.mpr ⟨hlen, rfl⟩)⟩
    · have hlong : 3584 < s.params.rom.length := Nat.lt_of_not_le hlen
      exact .inr ⟨hboot, hlong, (step_of_bootNext hboot).trans (if_pos hlong)⟩
  · exact .inl (exists_step_eq_next hboot)

/-! ## The drain (R253, R260, R261) -/

theorem applyEvent_run (s : State) (e : Event) : (applyEvent s e).run = runAfter s.run e := by
  cases e <;> cases h : s.run <;> simp [applyEvent, runAfter, toggledRun, restartedRun, h]

theorem applyEvents_run (evs : List Event) (s : State) : (evs.foldl applyEvent s).run = evs.foldl runAfter s.run := by
  induction evs generalizing s with
  | nil => rfl
  | cons e rest ih => rw [List.foldl_cons, List.foldl_cons, ih, applyEvent_run]

theorem drain_run (s : State) : (drain s).run = s.pend.foldl runAfter s.run := applyEvents_run ..

/-- Of the events only those about a key write its bit. -/
theorem keyHeld_applyEvent_of_ne {s : State} {e : Event} {k : Nibble} (hdown : e ≠ .keyDown k) (hup : e ≠ .keyUp k) :
    keyHeld (applyEvent s e) k = keyHeld s k := by
  cases e with
  | keyDown j => exact (keyHeld_writeKey ..).trans (if_neg fun h => hdown (congrArg Event.keyDown h))
  | keyUp j => exact (keyHeld_writeKey ..).trans (if_neg fun h => hup (congrArg Event.keyUp h))
  | quit | pauseToggle | restartReq => rfl

theorem keyHeld_applyEvents_of_noKeyEvent {evs : List Event} {k : Nibble} (h : NoKeyEvent evs k) (s : State) :
    keyHeld (evs.foldl applyEvent s) k = keyHeld s k := by
  induction evs generalizing s with
  | nil => rfl
  | cons e rest ih =>
    obtain ⟨hdown, hup⟩ := h
    rw [List.foldl_cons, ih ⟨List.not_mem_of_not_mem_cons hdown, List.not_mem_of_not_mem_cons hup⟩]
    exact keyHeld_applyEvent_of_ne (List.ne_of_not_mem_cons hdown).symm (List.ne_of_not_mem_cons hup).symm

/-- A key's bit is as the last event about the key left it. -/
theorem keyHeld_applyEvents_of_last {evs before after : List Event} {e : Event} {k : Nibble} (hevs : evs = before ++ e :: after)
    (h : NoKeyEvent after k) (s : State) :
    keyHeld (evs.foldl applyEvent s) k = keyHeld (applyEvent (before.foldl applyEvent s) e) k := by
  rw [hevs, List.foldl_append, List.foldl_cons, keyHeld_applyEvents_of_noKeyEvent h]

theorem keyHeld_writeKey_self (s : State) (k : Nibble) (b : Bool) : keyHeld (writeKey s k b) k = b :=
  (keyHeld_writeKey ..).trans (if_pos rfl)

/-- Settles O44: the drain is the fold of `applyEvent` over `pend`, event by event. -/
theorem drainAppliesEveryEvent : Obligations.DrainAppliesEveryEvent := by
  intro s hphase hreset
  refine ⟨_, step_of_input hphase hreset, rfl, drain_run _, fun k before after hpend hlast => ?_,
    fun k before after hpend hlast => ?_, fun k hno => ?_, ?_⟩
  · exact (keyHeld_applyEvents_of_last hpend hlast (beginStep s)).trans (keyHeld_writeKey_self ..)
  · exact (keyHeld_applyEvents_of_last hpend hlast (beginStep s)).trans (keyHeld_writeKey_self ..)
  · exact keyHeld_applyEvents_of_noKeyEvent hno (beginStep s)
  · rw [drain_frame]
    rfl

theorem runAfter_eq_quit_iff (r : RunState) (e : Event) : runAfter r e = .quit ↔ r = .quit ∨ e = .quit := by
  cases e <;> cases r <;> simp [runAfter]

theorem runAfterEvents_eq_quit_iff (evs : List Event) (r : RunState) :
    evs.foldl runAfter r = .quit ↔ r = .quit ∨ Event.quit ∈ evs := by
  induction evs generalizing r with
  | nil => simp
  | cons e rest ih => rw [List.foldl_cons, ih, runAfter_eq_quit_iff, List.mem_cons, or_assoc, eq_comm (a := e)]

/-- Settles O45: no event of the table of R253 leads out of `Quit`, and only `Quit` leads into it. -/
theorem quitWinsInADrain : Obligations.QuitWinsInADrain := by
  intro s t hphase hreset h
  cases (step_of_input hphase hreset).symm.trans h
  rw [setPhase_run, drain_run, beginStep_run, beginStep_pend, runAfterEvents_eq_quit_iff]

/-! ## The timer tick and the presentation (R254, R255, R257, R258) -/

/-- What `TimerTick` makes of a timer, as a number. -/
theorem toNat_decrement (b : Byte) : (if b = 0 then 0 else b - 1).toNat = b.toNat - 1 := by
  split <;> bv_omega

theorem decide_byte_ne_zero (b : Byte) : decide (b ≠ 0) = decide (b.toNat > 0) := by
  rw [decide_eq_decide]
  bv_omega

theorem sub_one_eq_ite (n : Nat) : n - 1 = if n > 0 then n - 1 else 0 := by
  split <;> omega

/-- Settles O49: one equation per register the tick writes. -/
theorem timerTickCountsDown : Obligations.TimerTickCountsDown := by
  intro s hphase hreset
  refine ⟨_, step_of_tick hphase hreset, ?_, ?_, decide_byte_ne_zero s.st, rfl⟩
  · exact (toNat_decrement s.dt).trans (sub_one_eq_ite _)
  · exact (toNat_decrement s.st).trans (sub_one_eq_ite _)

/-- Settles O51: the presentation writes `display_out` alone. -/
theorem presentationCopiesTheDisplay : Obligations.PresentationCopiesTheDisplay := fun _ hphase hreset =>
  ⟨_, step_of_present hphase hreset, rfl, rfl, rfl⟩

/-! ## The countdown to `reset` (log 2) -/

section
variable {s : State} {k : Nat}

theorem resetAfter_succ (k : Nat) (s : State) : resetAfter (k + 1) s = (resetAfter k s).map (· - 1) := by
  cases h : s.resetIn <;> simp [resetAfter, h, Nat.sub_sub]

theorem resetAfter_ne_some_zero (h : ∀ n, s.resetIn = some n → k < n) : resetAfter k s ≠ some 0 := by
  cases hs : s.resetIn with
  | none => simp [resetAfter, hs]
  | some n =>
    have := h n hs
    simp only [resetAfter, hs, Option.map_some, ne_eq, Option.some.injEq]
    omega

theorem resetIn_of_resetAfter_one (hreset : s.resetIn ≠ some 0) (h : resetAfter 1 s = some k) : s.resetIn = some (1 + k) := by
  cases hs : s.resetIn with
  | none => simp [resetAfter, hs] at h
  | some n =>
    simp only [resetAfter, hs, Option.map_some, Option.some.injEq, ne_eq] at h hreset ⊢
    omega

end

/-! ## A frame without an instruction (R244, R257) -/

/-- The state in which a paused or faulted frame comes to its tick. -/
def atIdleTick (s : State) : State := { s with resetIn := resetAfter 1 s, debugOut := [], phase := .tick }

/-- The state in which such a frame comes to its presentation. -/
def atIdlePresent (s : State) : State := { timerTick s with resetIn := resetAfter 2 s, debugOut := [], phase := .present }

/-- The state in which such a frame ends. -/
def afterIdleFrame (s : State) : State :=
  { presentDisplay (timerTick s) with resetIn := resetAfter 3 s, debugOut := [], phase := .pad }

theorem step_atIdleTick {s : State} (hreset : resetAfter 1 s ≠ some 0) : step (atIdleTick s) = .next (atIdlePresent s) := by
  rw [step_of_tick rfl hreset, atIdlePresent, resetAfter_succ]
  rfl

theorem step_atIdlePresent {s : State} (hreset : resetAfter 2 s ≠ some 0) :
    step (atIdlePresent s) = .next (afterIdleFrame s) := by
  rw [step_of_present rfl hreset, afterIdleFrame, resetAfter_succ]
  rfl

/-- A frame without an instruction is three steps: to the tick, the tick and the presentation. -/
theorem run_idleFrame {s : State} (hphase : s.phase = .execute) (hreset : ∀ n, s.resetIn = some n → 3 ≤ n)
    (hidle : s.run = .paused ∨ (s.run = .running ∧ s.fault ≠ .noFault)) :
    Host.Core.run Sys2Proof.core 3 s = .next (afterIdleFrame s) := by
  have hstart : step s = .next (atIdleTick s) :=
    step_of_execute_idle hphase (fun h => absurd (hreset 0 h) (by decide)) hidle
  have htick : step (atIdleTick s) = .next (atIdlePresent s) :=
    step_atIdleTick (resetAfter_ne_some_zero fun n hn => Nat.lt_of_succ_lt (hreset n hn))
  have hpresent : step (atIdlePresent s) = .next (afterIdleFrame s) := step_atIdlePresent (resetAfter_ne_some_zero hreset)
  exact (run_succ (k := 2) hstart).trans ((run_succ (k := 1) htick).trans (run_succ (k := 0) hpresent))

/-- Settles O50: the state after the three steps, element by element. -/
theorem timersTickWhilePausedOrFaulted : Obligations.TimersTickWhilePausedOrFaulted := fun s hphase hreset hidle =>
  ⟨afterIdleFrame s, run_idleFrame hphase hreset hidle, toNat_decrement s.dt, toNat_decrement s.st, rfl, rfl, rfl⟩

/-! ## A frame with a batch (R127, R251) -/

/-- `k` instruction cycles, one after the other, lead from `s` to `t`. -/
def CyclesLeadTo (k : Nat) (s t : State) : Prop :=
  (∀ j < k, ∃ r, Host.Core.run Sys2Proof.core j s = .next r ∧ CycleNext r) ∧ Host.Core.run Sys2Proof.core k s = .next t

theorem cyclesLeadTo_zero (s : State) : CyclesLeadTo 0 s s := ⟨nofun, rfl⟩

theorem cyclesLeadTo_succ {k : Nat} {s u t : State} (hcycle : CycleNext s) (hu : step s = .next u) (h : CyclesLeadTo k u t) :
    CyclesLeadTo (k + 1) s t := by
  obtain ⟨hcycles, hrun⟩ := h
  refine ⟨fun j hj => ?_, (run_succ hu).trans hrun⟩
  cases j with
  | zero => exact ⟨s, rfl, hcycle⟩
  | succ j =>
    obtain ⟨r, hr, hr'⟩ := hcycles j (Nat.lt_of_succ_lt_succ hj)
    exact ⟨r, (run_succ hu).trans hr, hr'⟩

/-- Inside a batch with `n` slots left, unless a fault has taken them (R243). -/
structure InBatch (n : Nat) (s : State) : Prop where
  phase : s.phase = .batch
  run : s.run = .running
  unfaulted : s.fault = .noFault → s.batchLeft = n
  faulted : s.fault ≠ .noFault → s.batchLeft = 0

/-- How a batch with `n` slots left, begun in `s`, ends after `k` cycles in `t`: before a boot, or before the step to the tick. -/
def BatchEnds (n k : Nat) (s t : State) : Prop :=
  (s.resetIn = some k ∧ BootNext t) ∨
  (t.phase = .batch ∧ t.resetIn ≠ some 0 ∧ t.batchLeft = 0 ∧ (t.fault = .noFault → k = n))

theorem InBatch.ends_here {n : Nat} {s : State} (h : InBatch n s) (hstop : s.resetIn = some 0 ∨ s.batchLeft = 0) :
    BatchEnds n 0 s s := by
  by_cases hreset : s.resetIn = some 0
  · exact .inl ⟨hreset, by simp [h.phase], .inl hreset⟩
  · have hleft : s.batchLeft = 0 := hstop.resolve_left hreset
    exact .inr ⟨h.phase, hreset, hleft, fun hfault => hleft.symm.trans (h.unfaulted hfault)⟩

theorem InBatch.cycleNext {n : Nat} {s : State} (h : InBatch n s) (hreset : s.resetIn ≠ some 0) (hleft : s.batchLeft ≠ 0) :
    CycleNext s :=
  ⟨h.phase, h.run, not_not.mp fun hfault => hleft (h.faulted hfault), Nat.pos_of_ne_zero hleft, hreset⟩

theorem exec_resetIn {i : Instr} {s t : State} (h : exec i s = .next t) : t.resetIn = s.resetIn := by
  rw [exec_frame h]

/-- A cycle takes one slot, or all of them by a raise (R120, R243). -/
theorem InBatch.step {n : Nat} {s : State} (h : InBatch (n + 1) s) (hcycle : CycleNext s) :
    ∃ u, step s = .next u ∧ InBatch n u ∧ u.resetIn = resetAfter 1 s := by
  obtain ⟨v, hv⟩ := exists_exec_eq_next (decodeWord (fetchWord s)) (afterFetch s)
  refine ⟨countCycle v, (step_of_cycleNext hcycle).trans (onNext_eq_next.mpr ⟨v, hv, rfl⟩), ?_, exec_resetIn hv⟩
  obtain ⟨_, _, hfault, _, _⟩ := hcycle
  have hslots := countCycle_batchLeft_cases (s := afterFetch s) hfault (exec_keepsOrRaises hv)
  have hleft : (afterFetch s).batchLeft = n + 1 := h.unfaulted hfault
  constructor
  case phase => exact (exec_phase hv).trans h.phase
  case run => exact (exec_run hv).trans h.run
  case unfaulted =>
    intro hno
    obtain ⟨_, hslots⟩ := hslots.resolve_right fun ⟨hraised, _⟩ => hraised hno
    rw [hslots, hleft, Nat.add_sub_cancel]
  case faulted => exact fun hraised => (hslots.resolve_left fun ⟨hno, _⟩ => hraised hno).2

/-- A cycle first and then a batch end is a batch end one cycle later. -/
theorem BatchEnds.after_cycle {n k : Nat} {s u t : State} (hreset : s.resetIn ≠ some 0) (hu : u.resetIn = resetAfter 1 s)
    (h : BatchEnds n k u t) : BatchEnds (n + 1) (k + 1) s t := by
  obtain ⟨hcut, hboot⟩ | ⟨hphase, hreset', hleft, hall⟩ := h
  · refine .inl ⟨?_, hboot⟩
    rw [resetIn_of_resetAfter_one hreset (hu.symm.trans hcut), Nat.add_comm]
  · exact .inr ⟨hphase, hreset', hleft, fun hfault => congrArg (· + 1) (hall hfault)⟩

/-- A batch ends after at most as many cycles as it has slots, by induction on them. -/
theorem InBatch.exists_end {n : Nat} {s : State} (h : InBatch n s) :
    ∃ k t, k ≤ n ∧ CyclesLeadTo k s t ∧ BatchEnds n k s t := by
  induction n generalizing s with
  | zero =>
    have hleft : s.batchLeft = 0 := (em _).elim h.unfaulted h.faulted
    exact ⟨0, s, Nat.le_refl 0, cyclesLeadTo_zero s, h.ends_here (.inr hleft)⟩
  | succ n ih =>
    by_cases hstop : s.resetIn = some 0 ∨ s.batchLeft = 0
    · exact ⟨0, s, Nat.zero_le _, cyclesLeadTo_zero s, h.ends_here hstop⟩
    · obtain ⟨hreset, hleft⟩ := not_or.mp hstop
      have hcycle := h.cycleNext hreset hleft
      obtain ⟨u, hu, hbatch, hu'⟩ := h.step hcycle
      obtain ⟨k, t, hk, hlead, hends⟩ := ih hbatch
      exact ⟨k + 1, t, Nat.succ_le_succ hk, cyclesLeadTo_succ hcycle hu hlead, hends.after_cycle hreset hu'⟩

/-- Settles O47: the first step starts a batch of `IPF` slots, and the step after its end is the one to the tick. -/
theorem batchRunsExactlyIpfCycles : Obligations.BatchRunsExactlyIpfCycles := by
  intro s hphase hreset hrun hfault
  have hstart := step_of_execute_running hphase hreset hrun hfault
  have hbatch : InBatch (ipf s.params) (setPhase (startBatch (beginStep s)) .batch) :=
    ⟨rfl, hrun, fun _ => rfl, fun h => absurd hfault h⟩
  obtain ⟨k, t, hk, ⟨hcycles, hend⟩, hends⟩ := hbatch.exists_end
  have hlater (j : Nat) : Host.Core.run Sys2Proof.core (1 + j) s =
      Host.Core.run Sys2Proof.core j (setPhase (startBatch (beginStep s)) .batch) := by
    rw [Nat.add_comm, run_succ hstart]
  refine ⟨k, t, hk, fun j hj => (hlater j).symm ▸ hcycles j hj, (hlater k).trans hend, ?_⟩
  obtain ⟨hcut, hboot⟩ | ⟨htphase, htreset, hleft, hall⟩ := hends
  · exact .inl ⟨resetIn_of_resetAfter_one hreset hcut, hboot⟩
  · have hover : canCycle t = false := by simp [canCycle, hleft]
    exact .inr ⟨hleft, hall, _, step_of_batch_over htphase htreset hover, rfl, rfl, rfl⟩

end Sys2Proof.Machine

/-! PROOFS. The boot sequence by `reset` and by a restart, its refusal, and the countdown to `reset` (70_reset_and_hazards.md R290,
R291, R293). -/

namespace Sys2Proof.Machine

open Sys2Proof.Claims

/-! ## A boot (R290, R291, R293) -/

/-- A boot leaves the values of 10_state.md R42 with the parameters that stood before the step: the ports a step begins with
(logs 2, 9) are none of them. -/
theorem booted_bootState_beginStep {s : State} (hlen : s.params.rom.length ≤ Config.romMax) :
    Booted s (bootState (beginStep s)) :=
  { booted_bootState (s := beginStep s) hlen with }

/-- Where a boot comes next and the image fits, the step answers the state of the boot sequence. -/
theorem step_of_bootNext_of_fits {s : State} (hboot : BootNext s) (hlen : s.params.rom.length ≤ Config.romMax) :
    step s = .next (bootState (beginStep s)) :=
  (step_of_bootNext hboot).trans (boot_eq_next.mpr ⟨hlen, rfl⟩)

/-- Settles O43: the length test of the boot sequence (R293) comes before it writes anything. -/
theorem oversizeRomIsRefused : Obligations.OversizeRomIsRefused := fun _ hboot hlong =>
  (step_of_bootNext hboot).trans (if_pos hlong)

/-! ## The countdown to `reset` (log 2) -/

@[simp] theorem drain_resetIn (s : State) : (drain s).resetIn = s.resetIn := by
  rw [drain_frame]

/-- The countdown is written by `beginStep`, by the boot sequence and by the wait for a frame tick alone. -/
theorem step_resetIn {s t : State} (h : step s = .next t) (hboot : ¬ BootNext s) (hstopped : s.phase ≠ .stopped)
    (hpad : s.phase ≠ .pad) : t.resetIn = resetAfter 1 s := by
  obtain ⟨hp, _⟩ | ⟨_, hreset, _, _⟩ | ⟨_, hframe⟩ := step_cases h
  · exact absurd hp hstopped
  · exact absurd ⟨hstopped, .inl hreset⟩ hboot
  · obtain ⟨hp, _⟩ | ⟨_, rfl⟩ | ⟨_, _, rfl⟩ | ⟨hp, hrun, _, _⟩ | ⟨_, _, rfl⟩ | ⟨_, _, _, rfl⟩ |
      ⟨_, _, _, _, u, hu, rfl⟩ | ⟨_, _, rfl⟩ | ⟨_, rfl⟩ | ⟨_, rfl⟩ := hframe
    · exact absurd hp hpad
    · exact drain_resetIn _
    · rfl
    · exact absurd ⟨hstopped, .inr ⟨hp, hrun⟩⟩ hboot
    · rfl
    · rfl
    · exact exec_resetIn hu
    · rfl
    · rfl
    · rfl

/-- Settles O42: the state the boot sequence leaves, and the countdown in the steps that neither boot nor wait. -/
theorem resetAndRestartBoot : Obligations.ResetAndRestartBoot :=
  ⟨fun _ hboot hlen => ⟨_, step_of_bootNext_of_fits hboot hlen, booted_bootState_beginStep hlen⟩,
    fun _ _ h hboot hstopped hpad => step_resetIn h hboot hstopped hpad⟩

end Sys2Proof.Machine
